-- ==== Sys2Proof/Word.lean ====
section
/-!
DEFINITION. The widths and the plain data types of the engine: bytes, halfwords, command words, frame kinds,
frames, and the events the engine hands to the outside (spec/00_scope.md R7, R12; 30_encoding.md R90, R93).
-/

namespace Sys2Proof

/-- A byte (R7). Bit 7 is the most significant (R12). -/
abbrev Byte := BitVec 8

/-- The 16-bit unsigned duration (R7). -/
abbrev Half := BitVec 16

/-- The 32-bit host command word `op[31:24] a[23:16] d[15:0]` (R101). -/
abbrev Word32 := BitVec 32

/-- The six packet kinds (R93); there is no seventh (R99 a, D28). -/
inductive Kind where
  | start | stop | dispense | check | getState | response
  deriving DecidableEq, Repr

/-- Which payload byte holds the low half of the duration (R62). -/
inductive DurOrder where
  /-- low byte at offset 4 -/
  | le
  /-- high byte at offset 4 -/
  | be
  deriving DecidableEq, Repr

/-- The 6-byte frame, offset 0 first (R90); requests and replies share the layout. -/
structure Frame where
  /-- offset 0 -/
  header0 : Byte
  /-- offset 1 -/
  header1 : Byte
  /-- offset 2 -/
  address : Byte
  /-- offset 3 -/
  typeByte : Byte
  /-- offset 4: placeholder, duration byte, or the status byte of a RESPONSE reply (R94) -/
  payload0 : Byte
  /-- offset 5 -/
  payload1 : Byte
  deriving DecidableEq, Repr

/-- What the engine does to the link environment, in order (R70): a transfer of `tx` out and `rx` in (R66),
or the abstract bus-reset event (R217). -/
inductive WireEvent where
  | xfer (tx rx : Byte)
  | busReset
  deriving DecidableEq, Repr

/-- The abstract events of the trace port (R165). -/
inductive TraceEvent where
  | attempt (request : Frame)
  | byte (tx rx : Byte)
  deriving DecidableEq, Repr

/-- What the link does after the answers listed in advance are used up (R67): it follows the oracle, it answers
one byte for ever (a line held at a level, R197), or it never answers again (R66 e). -/
inductive LinkTail where
  | oracle
  | repeats (b : Byte)
  | stalled
  deriving DecidableEq, Repr

end Sys2Proof
end

