-- ==== Sys2Proof/Config.lean ====
section
/-!
DEFINITION. The named constants of the spec, its parameters, and the free values (spec/00_scope.md R6;
92_eei_decisions.md D5 to D7, D22, CFG_REF; 95_test_vectors.md part 9, CFG_ALT; 93_implementation_defined.md U1, U4, U6).
-/

namespace Sys2Proof

namespace Config

/-- FRAME_SIZE: bytes in a packet (R6). -/
def frameSize : Nat := 6
/-- SYNC: the sync byte; the header is SYNC SYNC (R6, R91). -/
def syncByte : Byte := 0xFF
/-- FILL0: first placeholder payload byte (R6, R95). -/
def fill0 : Byte := 0xA0
/-- FILL1: second placeholder payload byte (R6, R95). -/
def fill1 : Byte := 0xA1
/-- FILLER_TX: the byte transmitted when the engine has nothing to say (R6, R109). -/
def fillerTx : Byte := 0x00
/-- EXEMPT: the offsets not compared when the request is of kind RESPONSE, the payload offsets (R6, R68). -/
def exempt : List Nat := [4, 5]
/-- MAX_DISPENSERS: the largest plausible slave count; the host's bound, never the engine's (R6, R294). -/
def maxDispensers : Nat := 32

/-- U4, D14: the n-th `any8` drawn, a byte under no law. FREE VALUE (log entry 6). -/
opaque any8 : Nat → Byte

/-- U6: the trace events of the n-th trace point passed with DEBUG_LEVEL 3 to 255. FREE VALUE (log entry 6). -/
opaque freeTrace : Nat → List TraceEvent

/-- U1, U2, R67: the link's answer to a transmitted byte after a given history; `none` is a transfer never
completed. FREE VALUE (log entry 4). -/
opaque linkAnswer : List WireEvent → Byte → Option Byte

end Config

/-- TYPE_CODE as six bytes (R93). -/
structure TypeCodes where
  start : Byte
  stop : Byte
  dispense : Byte
  check : Byte
  getState : Byte
  response : Byte
  deriving DecidableEq, Repr

/-- The parameters the source leaves open (R6). -/
structure Params where
  typeCodes : TypeCodes
  /-- PRIMER (R108) -/
  primer : Byte
  /-- DUR_ORDER (R62) -/
  durOrder : DurOrder
  deriving DecidableEq, Repr

/-- TYPE_CODE(kind) (R93). -/
def Params.typeCode (p : Params) : Kind → Byte
  | .start => p.typeCodes.start
  | .stop => p.typeCodes.stop
  | .dispense => p.typeCodes.dispense
  | .check => p.typeCodes.check
  | .getState => p.typeCodes.getState
  | .response => p.typeCodes.response

/-- The constraints R6 puts on the parameters: TYPE_CODE is injective and PRIMER is not 0x00. -/
abbrev Params.Wf (p : Params) : Prop :=
  [p.typeCodes.start, p.typeCodes.stop, p.typeCodes.dispense, p.typeCodes.check, p.typeCodes.getState,
    p.typeCodes.response].Nodup ∧ p.primer ≠ 0x00

/-- CFG_REF: the spec's reference values, used by its examples and by opcode_table.json (log entry 2). -/
def Params.ref : Params :=
  { typeCodes := { start := 0x01, stop := 0x02, dispense := 0x03, check := 0x04, getState := 0x05, response := 0x06 }
    primer := 0x01, durOrder := .le }

/-- CFG_ALT: the second configuration of 95_test_vectors.md part 9. -/
def Params.alt : Params :=
  { typeCodes := { start := 0x10, stop := 0x11, dispense := 0x12, check := 0x13, getState := 0x14, response := 0x20 }
    primer := 0x55, durOrder := .be }

end Sys2Proof
end

