-- ==== Sys2Proof/Machine/Operands.lean ====
section
/-!
DEFINITION. The operand forms: bytes of a frame by offset (spec/20_memory.md R60, R68), the split of the duration
(30_encoding.md R96), the request frame (R90 to R95, 40_codec.md R130), and the fields of a command word (R101).
-/

namespace Sys2Proof

/-- Byte `k` of a buffer; offsets outside 0 to 5 do not exist (R60). -/
def Frame.get? (f : Frame) : Nat → Option Byte
  | 0 => some f.header0
  | 1 => some f.header1
  | 2 => some f.address
  | 3 => some f.typeByte
  | 4 => some f.payload0
  | 5 => some f.payload1
  | _ => none

/-- The buffer with byte `k` written; offsets outside 0 to 5 do not exist (R60). -/
def Frame.set? (f : Frame) (k : Nat) (b : Byte) : Option Frame :=
  match k with
  | 0 => some { f with header0 := b }
  | 1 => some { f with header1 := b }
  | 2 => some { f with address := b }
  | 3 => some { f with typeByte := b }
  | 4 => some { f with payload0 := b }
  | 5 => some { f with payload1 := b }
  | _ => none

/-- The six bytes in ascending offset, the order on the wire (R61). -/
def Frame.bytes (f : Frame) : List Byte :=
  [f.header0, f.header1, f.address, f.typeByte, f.payload0, f.payload1]

/-- The cleared buffer (R151). -/
def Frame.zero : Frame := ⟨0x00, 0x00, 0x00, 0x00, 0x00, 0x00⟩

/-- The frame BUILD makes of a kind, an address and two payload bytes (R130). -/
def requestFrame (p : Params) (kind : Kind) (addr p0 p1 : Byte) : Frame :=
  ⟨Config.syncByte, Config.syncByte, addr, p.typeCode kind, p0, p1⟩

/-- The request that carries no data: payload FILL0 FILL1 (R94, R95). -/
def placeholderFrame (p : Params) (kind : Kind) (addr : Byte) : Frame :=
  requestFrame p kind addr Config.fill0 Config.fill1

/-- The two payload bytes of a duration, offset 4 first (R96). -/
def durationPayload (o : DurOrder) (d : Half) : Byte × Byte :=
  match o with
  | .le => (d.extractLsb' 0 8, d.extractLsb' 8 8)
  | .be => (d.extractLsb' 8 8, d.extractLsb' 0 8)

/-- The duration that two payload bytes carry (R62). -/
def payloadDuration (o : DurOrder) (p0 p1 : Byte) : Half :=
  match o with
  | .le => p1 ++ p0
  | .be => p0 ++ p1

/-- The REQ_DISPENSE request (R133). -/
def dispenseFrame (p : Params) (addr : Byte) (d : Half) : Frame :=
  requestFrame p .dispense addr (durationPayload p.durOrder d).1 (durationPayload p.durOrder d).2

/-- `op` of a command word (R101). -/
def wordOp (w : Word32) : Byte := w.extractLsb' 24 8
/-- `a` of a command word (R101). -/
def wordA (w : Word32) : Byte := w.extractLsb' 16 8
/-- `d` of a command word (R101). -/
def wordD (w : Word32) : Half := w.extractLsb' 0 16
/-- The command word of three fields (R101). -/
def commandWord (op a : Byte) (d : Half) : Word32 := op ++ a ++ d

/-- The 48-bit number of a frame, offset 0 in the most significant byte (R90). -/
def frameNumber (f : Frame) : BitVec 48 :=
  f.header0 ++ f.header1 ++ f.address ++ f.typeByte ++ f.payload0 ++ f.payload1

/-- The frame of a 48-bit number (R90). -/
def frameOfNumber (w : BitVec 48) : Frame :=
  ⟨w.extractLsb' 40 8, w.extractLsb' 32 8, w.extractLsb' 24 8, w.extractLsb' 16 8, w.extractLsb' 8 8, w.extractLsb' 0 8⟩

end Sys2Proof
end

