-- ==== Sys2Proof/Syntax.lean ====
section
/-!
DEFINITION. The instructions: one constructor per row of spec/opcode_table.json (R8, R110).
-/

namespace Sys2Proof

/-- The sixteen instructions in the words of R8: six wire frames, eight host commands, two micro-operations.
A host command keeps both operand fields of its word, also those it ignores (R101), because acceptance latches
them whether or not the command uses them (R103; BUSRESET's leaves the latches, log entry 9). -/
inductive Instr where
  /-- REQ_START (R131) -/
  | reqStart (addr : Byte)
  /-- REQ_STOP (R132) -/
  | reqStop (addr : Byte)
  /-- REQ_DISPENSE (R133) -/
  | reqDispense (addr : Byte) (duration : Half)
  /-- REQ_CHECK (R134) -/
  | reqCheck (addr : Byte)
  /-- REQ_GET_STATE (R135) -/
  | reqGetState (addr : Byte)
  /-- REQ_RESPONSE (R136) -/
  | reqResponse (addr : Byte)
  /-- BUSRESET, op 0x00 (R217); `a` and `d` are ignored -/
  | busReset (a : Byte) (d : Half)
  /-- ASSIGN, op 0x01 (R190); `a` and `d` are ignored -/
  | assign (a : Byte) (d : Half)
  /-- TURNON, op 0x02 (R211); `d` is ignored -/
  | turnOn (addr : Byte) (d : Half)
  /-- TURNOFF, op 0x03 (R212); `d` is ignored -/
  | turnOff (addr : Byte) (d : Half)
  /-- DISPENSE, op 0x04 (R213) -/
  | dispense (addr : Byte) (duration : Half)
  /-- CHECKALL, op 0x05 (R214); `d` is ignored -/
  | checkAll (count : Byte) (d : Half)
  /-- GETSTATE, op 0x06 (R215); `d` is ignored -/
  | getState (addr : Byte) (d : Half)
  /-- SETDEBUG, op 0x07 (R216); `d` is ignored -/
  | setDebug (level : Byte) (d : Half)
  /-- BUILD, micro-operation, no encoding (R130, R104) -/
  | build (kind : Kind) (addr p0 p1 : Byte)
  /-- EXCHANGE, micro-operation, no encoding; its operand is the request buffer (R150, R104) -/
  | exchange
  deriving DecidableEq, Repr

end Sys2Proof
end

