-- ==== Sys2Proof/WellFormed.lean ====
section
/-!
DEFINITION. Which instruction terms the engine can form (spec/30_encoding.md R94, R99 c; 40_codec.md R130) and
which have an encoding (R104).
-/

namespace Sys2Proof

/-- The payload operands the engine passes to BUILD: the placeholders for every kind but DISPENSE, any two
duration bytes for DISPENSE (R94, R99 c, R130). -/
def wellFormedPayload (kind : Kind) (p0 p1 : Byte) : Bool :=
  kind == .dispense || (p0 == Config.fill0 && p1 == Config.fill1)

/-- A term the engine can form. Every operand of every other row is legal at every value of its width: no
address, count, level or duration is refused (R92, R96, R138, R220). -/
def Instr.wellFormed : Instr → Bool
  | .build kind _ p0 p1 => wellFormedPayload kind p0 p1
  | .reqStart _ => true
  | .reqStop _ => true
  | .reqDispense _ _ => true
  | .reqCheck _ => true
  | .reqGetState _ => true
  | .reqResponse _ => true
  | .busReset _ _ => true
  | .assign _ _ => true
  | .turnOn _ _ => true
  | .turnOff _ _ => true
  | .dispense _ _ => true
  | .checkAll _ _ => true
  | .getState _ _ => true
  | .setDebug _ _ => true
  | .exchange => true

/-- The two micro-operations have no encoding (R104, R110). -/
def Instr.encodable : Instr → Bool
  | .build _ _ _ _ => false
  | .exchange => false
  | .reqStart _ => true
  | .reqStop _ => true
  | .reqDispense _ _ => true
  | .reqCheck _ => true
  | .reqGetState _ => true
  | .reqResponse _ => true
  | .busReset _ _ => true
  | .assign _ _ => true
  | .turnOn _ _ => true
  | .turnOff _ _ => true
  | .dispense _ _ => true
  | .checkAll _ _ => true
  | .getState _ _ => true
  | .setDebug _ _ => true

end Sys2Proof
end

