-- ==== Sys2Proof/Decode.lean ====
section
/-!
DEFINITION. The decoder of command words (spec/30_encoding.md R101 to R103) and of frames (R90 to R97, R110), total
and rejecting by name, and after it the encoder written from the same tables.
-/

namespace Sys2Proof

/-- Why something is no instruction. -/
inductive Reject where
  /-- a command word whose `op` is 0x08 to 0xFF (R102, R103) -/
  | reservedOp (op : Byte)
  /-- a frame whose first two bytes are not SYNC SYNC (R91) -/
  | badHeader (h0 h1 : Byte)
  /-- a frame whose type byte is no TYPE_CODE (R93, R99 a) -/
  | unknownType (t : Byte)
  /-- neither 4 bytes of command word nor 6 bytes of frame (R100, R101) -/
  | badLength (bytes : Nat)
  deriving DecidableEq, Repr

/-- The decoder's answer. -/
inductive Decoded where
  | instr (i : Instr)
  | rejected (r : Reject)
  deriving DecidableEq, Repr

/-- The command of a 32-bit command word (R101, R102); reserved codes are rejected (R103). -/
def decodeCommand (w : Word32) : Decoded :=
  match (wordOp w).toNat with
  | 0 => .instr (.busReset (wordA w) (wordD w))
  | 1 => .instr (.assign (wordA w) (wordD w))
  | 2 => .instr (.turnOn (wordA w) (wordD w))
  | 3 => .instr (.turnOff (wordA w) (wordD w))
  | 4 => .instr (.dispense (wordA w) (wordD w))
  | 5 => .instr (.checkAll (wordA w) (wordD w))
  | 6 => .instr (.getState (wordA w) (wordD w))
  | 7 => .instr (.setDebug (wordA w) (wordD w))
  | _ => .rejected (.reservedOp (wordOp w))

/-- The kind whose TYPE_CODE a type byte is (R93). -/
def kindOfType (p : Params) (t : Byte) : Option Kind :=
  if t = p.typeCode .start then some .start
  else if t = p.typeCode .stop then some .stop
  else if t = p.typeCode .dispense then some .dispense
  else if t = p.typeCode .check then some .check
  else if t = p.typeCode .getState then some .getState
  else if t = p.typeCode .response then some .response
  else none

/-- The request a frame stands for, by the table's `match` and `mask`: header and type byte decide, and only
DISPENSE reads the payload (R110; log entry 7). -/
def decodeFrame (p : Params) (f : Frame) : Decoded :=
  if f.header0 = Config.syncByte ∧ f.header1 = Config.syncByte then
    match kindOfType p f.typeByte with
    | some .start => .instr (.reqStart f.address)
    | some .stop => .instr (.reqStop f.address)
    | some .dispense => .instr (.reqDispense f.address (payloadDuration p.durOrder f.payload0 f.payload1))
    | some .check => .instr (.reqCheck f.address)
    | some .getState => .instr (.reqGetState f.address)
    | some .response => .instr (.reqResponse f.address)
    | none => .rejected (.unknownType f.typeByte)
  else .rejected (.badHeader f.header0 f.header1)

/-- Does a frame match its row's `request_match`: a known type byte, and the placeholder payload for every kind
but DISPENSE (R94, R110). -/
def isRequestFrame (p : Params) (f : Frame) : Bool :=
  f.header0 == Config.syncByte && f.header1 == Config.syncByte &&
    match kindOfType p f.typeByte with
    | some kind => wellFormedPayload kind f.payload0 f.payload1
    | none => false

/-- An encoding: a command word or a wire frame (R110). -/
inductive Encoding where
  | command (w : Word32)
  | frame (f : Frame)
  deriving DecidableEq, Repr

/-- The instruction of an encoding. -/
def decode (p : Params) : Encoding → Decoded
  | .command w => decodeCommand w
  | .frame f => decodeFrame p f

/-- The decoder on any bytes: four bytes are a command word, most significant byte first (log entry 7); six are
a frame in wire order (R61, R90); any other length is rejected. -/
def decodeBytes (p : Params) : List Byte → Decoded
  | [b3, b2, b1, b0] => decodeCommand (b3 ++ b2 ++ b1 ++ b0)
  | [b0, b1, b2, b3, b4, b5] => decodeFrame p ⟨b0, b1, b2, b3, b4, b5⟩
  | bs => .rejected (.badLength bs.length)

/-- The instruction of a row's number, as opcode_table.json numbers bits: 32-bit rows are command words, 48-bit
rows frames with offset 0 in the most significant byte, at the table's reference parameters (R90, R101, R110). -/
def decodeTableWord (nbits w : Nat) : Option Instr :=
  match (if nbits = 32 then decodeCommand (BitVec.ofNat 32 w)
    else if nbits = 48 then decodeFrame Params.ref (frameOfNumber (BitVec.ofNat 48 w))
    else .rejected (.badLength (nbits / 8))) with
  | .instr i => some i
  | .rejected _ => none

/-- The encoding of an instruction (R90 to R96, R101, R102); none for the two micro-operations (R104). -/
def encode (p : Params) : Instr → Option Encoding
  | .reqStart addr => some (.frame (placeholderFrame p .start addr))
  | .reqStop addr => some (.frame (placeholderFrame p .stop addr))
  | .reqDispense addr d => some (.frame (dispenseFrame p addr d))
  | .reqCheck addr => some (.frame (placeholderFrame p .check addr))
  | .reqGetState addr => some (.frame (placeholderFrame p .getState addr))
  | .reqResponse addr => some (.frame (placeholderFrame p .response addr))
  | .busReset a d => some (.command (commandWord 0x00 a d))
  | .assign a d => some (.command (commandWord 0x01 a d))
  | .turnOn addr d => some (.command (commandWord 0x02 addr d))
  | .turnOff addr d => some (.command (commandWord 0x03 addr d))
  | .dispense addr d => some (.command (commandWord 0x04 addr d))
  | .checkAll count d => some (.command (commandWord 0x05 count d))
  | .getState addr d => some (.command (commandWord 0x06 addr d))
  | .setDebug level d => some (.command (commandWord 0x07 level d))
  | .build _ _ _ _ => none
  | .exchange => none

end Sys2Proof
end

