-- ==== Sys2Proof/Machine/State.lean ====
section
/-!
DEFINITION. The state of the machine: the closed list of spec/10_state.md R20, the parameters of R6, and the model's
own record of what surrounds the engine (host, link, logs); the reasons a step stops; the state after reset (R36).
-/

namespace Sys2Proof.Machine

/-- HSTATE: is a command in progress (R24). -/
inductive HState where
  | idle | busy
  deriving DecidableEq, Repr

/-- SEQ: no device operation, its command exchange, or its fetch-response exchange (R24). -/
inductive SeqPhase where
  | none | cmd | fetch
  deriving DecidableEq, Repr

/-- XPH: no exchange, phase 1 (X_REQ), phase 2 (X_FILL) (R24). -/
inductive XPhase where
  | idle | req | fill
  deriving DecidableEq, Repr

/-- ESTATE: the enumerator is idle, about to send the primer, or polling (R24). -/
inductive EState where
  | idle | primer | poll
  deriving DecidableEq, Repr

/-- SYNC: the synchronisation state machine (R27). -/
inductive SyncState where
  | seeking | accepting
  deriving DecidableEq, Repr

/-- Why the machine stops. -/
inductive Fault where
  /-- Raised by `xfer` when the link never answers: the stuck state of R66 e, R168 a, U2. The spec's own; safe. -/
  | linkStalled
  /-- Raised by an access to a buffer offset above 5, which does not exist (R60); no run from reset reaches it.
  Safe: the machine stops where the spec gives no rule. -/
  | noSuchOffset
  /-- Raised in a busy control state no rule steps from (R223); no run from reset reaches it. Safe. -/
  | noEnabledStep
  deriving DecidableEq, Repr

/-- Why the machine gives a run no meaning. -/
inductive Refusal where
  /-- An instruction without a meaning in this model; no arm of `exec` answers it. Safe. -/
  | notModelled (mnemonic : String)
  /-- Raised by `step` for a word with a reserved `op`: R103 and U9 say a model refuses it. Safe. -/
  | notAccepted (why : Reject)
  /-- Raised by a command offered while another is in progress: R103 and U9 say a model refuses it. Safe. -/
  | commandWhileBusy
  deriving DecidableEq, Repr

/-- The machine. -/
structure State where
  /-- the parameters TYPE_CODE, PRIMER, DUR_ORDER (R6); no step writes them -/
  params : Params
  /-- REQ[0..5] (R21) -/
  req : Frame
  /-- REPLY[0..5] (R22) -/
  reply : Frame
  /-- OP_ADDR (R23) -/
  opAddr : Byte
  /-- OP_DUR (R23) -/
  opDur : Half
  /-- HSTATE (R24) -/
  hstate : HState
  /-- CUR_OP (R24) -/
  curOp : BitVec 3
  /-- SEQ (R24) -/
  seq : SeqPhase
  /-- SCAN_ADDR (R32) -/
  scanAddr : Byte
  /-- XPH (R24) -/
  xph : XPhase
  /-- TXI (R25) -/
  txi : BitVec 3
  /-- RXN (R26) -/
  rxn : BitVec 3
  /-- SYNC (R27) -/
  sync : SyncState
  /-- ESTATE (R24) -/
  estate : EState
  /-- ERX (R33) -/
  erx : Byte
  /-- SUCCESS (R28) -/
  success : Bool
  /-- NUM_DISPENSERS (R29); no value while NUM_VALID = 0 -/
  numDispensers : Byte
  /-- NUM_VALID (R29) -/
  numValid : Bool
  /-- DEBUG_LEVEL (R30) -/
  debugLevel : Byte
  /-- RES_OK (R31) -/
  resOk : Bool
  /-- RES_A (R31) -/
  resA : Byte
  /-- RES_B (R31) -/
  resB : Byte
  /-- the model's own: has a command ended since engine reset (U8, log entry 5) -/
  resWritten : Bool
  /-- input: the words the host is still going to offer, the next one first (log entry 3) -/
  cmds : List Word32
  /-- input: engine reset is asserted (R290, log entry 8) -/
  rst : Bool
  /-- input: the link's next answers, the next one first (R67, log entry 4) -/
  script : List Byte
  /-- input: what the link does after `script` (R67, log entry 4) -/
  tail : LinkTail
  /-- output: the transfers and bus-reset events so far, oldest first (R70, log entry 5) -/
  wire : List WireEvent
  /-- output: the trace events so far, oldest first (R165, log entry 5) -/
  trace : List TraceEvent
  /-- the model's own: how many `any8` have been drawn (log entry 6) -/
  draws : Nat
  /-- the model's own: how many unspecified trace points have been passed (log entry 6) -/
  traceDraws : Nat
  deriving DecidableEq, Repr

/-- What a meaning answers. -/
abbrev Result := Host.Outcome State Fault Refusal

/-- After engine reset (R36): idle control state, NUM_VALID 0, DEBUG_LEVEL 0. Every element R36 leaves
unspecified holds the value log entry 1 names; the parameters are CFG_REF (log entry 2). -/
def State.reset : State :=
  { params := Params.ref
    req := Frame.zero, reply := Frame.zero
    opAddr := 0x00, opDur := 0x0000
    hstate := .idle, curOp := 0, seq := .none, scanAddr := 0x00
    xph := .idle, txi := 0, rxn := 0, sync := .seeking
    estate := .idle, erx := 0x00
    success := false
    numDispensers := 0x00, numValid := false
    debugLevel := 0x00
    resOk := false, resA := 0x00, resB := 0x00, resWritten := false
    cmds := [], rst := false
    script := [], tail := .oracle
    wire := [], trace := [], draws := 0, traceDraws := 0 }

end Sys2Proof.Machine
end

