-- ==== Sys2Proof/Machine/Flags.lean ====
section
/-!
DEFINITION. The tests and flag computations: verification (spec/41_transport.md R160 to R162), the synchronisation
rule (R153 to R156), the enumeration poll's test and the count (42_enumerator.md R192, R193).
-/

namespace Sys2Proof.Machine

/-- Is the request of kind RESPONSE: a test of the request's type byte, never the reply's (R161). -/
def isResponse (p : Params) (req : Frame) : Bool := req.typeByte == p.typeCode .response

/-- Offset `k` passes verification: it is exempt, or the bytes are equal (R160, R161). -/
def offsetMatches (p : Params) (req reply : Frame) (k : Nat) : Bool :=
  (isResponse p req && Config.exempt.contains k) || req.get? k == reply.get? k

/-- SUCCESS: every compared offset matched (R160, R162). -/
def verify (p : Params) (req reply : Frame) : Bool :=
  (List.range Config.frameSize).all (offsetMatches p req reply)

/-- Is a received byte accepted: never the first of the exchange, and while Seeking only the sync byte (R156). -/
def acceptsByte (first : Bool) (sync : SyncState) (rx : Byte) : Bool :=
  !first && (sync == .accepting || rx == Config.syncByte)

/-- Does the poll go on: the received byte is 0x00 or the sync byte (R192). -/
def notYetAnswered (rx : Byte) : Bool := rx == 0x00 || rx == Config.syncByte

/-- The slave count a sentinel encodes, subtraction modulo 256 (R193). -/
def slaveCount (sentinel : Byte) : Byte := sentinel - 1

end Sys2Proof.Machine
end

