-- ==== Sys2Proof/Machine/Ops.lean ====
section
/-!
DEFINITION. The shared operations over the state: the link transfer (spec/20_memory.md R66, R67), trace
(41_transport.md R165), command acceptance and end (30_encoding.md R103, 43_device_ops.md R210, R223), reporting
a transmission error (60_exceptions.md R251, R256), the bus-reset event (R217), engine reset (70_reset_and_hazards.md
R290), and what the host may read (10_state.md R29, R31).
-/

namespace Sys2Proof.Machine

/-- The byte the link answers to `tx`, if it ever answers (R67): the next one listed, then as `tail` says. -/
def linkReturns (tx : Byte) (s : State) : Option Byte :=
  match s.script with
  | rx :: _ => some rx
  | [] =>
    match s.tail with
    | .oracle => Config.linkAnswer s.wire tx
    | .repeats b => some b
    | .stalled => none

/-- A completed transfer: one byte out, one byte in (R66 a). -/
def recordXfer (tx rx : Byte) (s : State) : State :=
  { s with script := s.script.tail, wire := s.wire ++ [.xfer tx rx] }

/-- `rx <- Xfer(tx)` and then `k`; a transfer the link never completes leaves the engine stuck (R66 e, U2). -/
def xfer (tx : Byte) (k : Byte → State → Result) (s : State) : Result :=
  match linkReturns tx s with
  | some rx => k rx (recordXfer tx rx s)
  | none => .fault .linkStalled

/-- One trace point under DEBUG_LEVEL 3 to 255: any events (U6). -/
def traceFree (s : State) : State :=
  { s with trace := s.trace ++ Config.freeTrace s.traceDraws, traceDraws := s.traceDraws + 1 }

/-- The trace point at the start of an exchange (R165). -/
def traceAttempt (s : State) : State :=
  if s.debugLevel = 0 then s
  else if s.debugLevel = 1 ∨ s.debugLevel = 2 then { s with trace := s.trace ++ [.attempt s.req] }
  else traceFree s

/-- The trace point after a transfer of an exchange (R165). -/
def traceByte (tx rx : Byte) (s : State) : State :=
  if s.debugLevel = 0 ∨ s.debugLevel = 1 then s
  else if s.debugLevel = 2 then { s with trace := s.trace ++ [.byte tx rx] }
  else traceFree s

/-- Command acceptance: what R103 writes, for every command but BUSRESET (log entry 9). -/
def accept (op : BitVec 3) (a : Byte) (d : Half) (s : State) : State :=
  { s with hstate := .busy, curOp := op, opAddr := a, opDur := d }

/-- The latches hold this command, so that it is the one in progress (R103). -/
def inProgress (op : BitVec 3) (a : Byte) (d : Half) (s : State) : Bool :=
  s.curOp == op && s.opAddr == a && s.opDur == d

/-- The end of a command: the results and H_IDLE (R223). -/
def endCommand (ok : Bool) (a b : Byte) (s : State) : State :=
  { s with resOk := ok, resA := a, resB := b, resWritten := true, hstate := .idle }

/-- The end of a device operation: also S_NONE (R210). -/
def endDeviceOp (ok : Bool) (a b : Byte) (s : State) : State :=
  endCommand ok a b { s with seq := .none }

/-- Taking a transmission error, the engine's one exception (E1, R251, R256): the command ends at once with
RES_OK = 0; a result field the source leaves blank is `any8` (R31, U4), the others 0. Nothing was entered, so
nothing returns from it (R257). -/
def takeTransmissionError (openA openB : Bool) (s : State) : State :=
  endDeviceOp false
    (if openA then Config.any8 s.draws else 0x00)
    (if openB then Config.any8 (s.draws + openA.toNat) else 0x00)
    { s with draws := s.draws + openA.toNat + openB.toNat }

/-- `BusResetEvent()`: one abstract output event, no transfer (R217). -/
def busResetEvent (s : State) : State :=
  { s with wire := s.wire ++ [.busReset] }

/-- Engine reset, from any state: every element at its reset value, no transfer, no bus-reset event (R290).
What surrounds the engine stays: the parameters, the host's coming commands, the link, the logs. -/
def engineReset (s : State) : State :=
  { State.reset with
    params := s.params, cmds := s.cmds, script := s.script, tail := s.tail, wire := s.wire, trace := s.trace
    draws := s.draws, traceDraws := s.traceDraws }

/-- `cmd_ready`: the engine takes a command word (R103). -/
def cmdReady (s : State) : Bool := s.hstate == .idle

/-- The host's read of the session's slave count, at any time the engine is idle; no value while NUM_VALID = 0
(R29, U8). -/
def hostSlaveCount (s : State) : Option Byte :=
  if s.hstate = .idle ∧ s.numValid = true then some s.numDispensers else none

/-- The host's read of the results `(RES_OK, RES_A, RES_B)`; no value before a command has ended (R31, U8). R31 says that
the host reads them when a command ends, and R37 that they live to the end of the next; whether it can read them while
that next command is in progress is left open, and that it gets no value then is a DESIGN CHOICE (log entry 13). -/
def hostResult (s : State) : Option (Bool × Byte × Byte) :=
  if s.hstate = .idle ∧ s.resWritten = true then some (s.resOk, s.resA, s.resB) else none

end Sys2Proof.Machine
end

