-- ==== Sys2Proof/Machine/Codec.lean ====
section
/-!
DEFINITION. The packet codec: BUILD and the six request frames (spec/40_codec.md R130 to R138).
-/

namespace Sys2Proof.Machine

/-- The request buffer written, all six bytes, and nothing else (R21, R130). -/
def writeRequest (f : Frame) (s : State) : State := { s with req := f }

/-- BUILD (R130): a pure constructor of the frame; it checks nothing (R138). -/
def execBuild (kind : Kind) (addr p0 p1 : Byte) (s : State) : Result :=
  .next (writeRequest (requestFrame s.params kind addr p0 p1) s)

/-- REQ_START (R131). -/
def execReqStart (addr : Byte) (s : State) : Result :=
  execBuild .start addr Config.fill0 Config.fill1 s

/-- REQ_STOP (R132). -/
def execReqStop (addr : Byte) (s : State) : Result :=
  execBuild .stop addr Config.fill0 Config.fill1 s

/-- REQ_DISPENSE (R133): the payload is the split duration (R96). -/
def execReqDispense (addr : Byte) (duration : Half) (s : State) : Result :=
  execBuild .dispense addr (durationPayload s.params.durOrder duration).1 (durationPayload s.params.durOrder duration).2 s

/-- REQ_CHECK (R134). -/
def execReqCheck (addr : Byte) (s : State) : Result :=
  execBuild .check addr Config.fill0 Config.fill1 s

/-- REQ_GET_STATE (R135). -/
def execReqGetState (addr : Byte) (s : State) : Result :=
  execBuild .getState addr Config.fill0 Config.fill1 s

/-- REQ_RESPONSE (R136): the request carries the placeholder payload. -/
def execReqResponse (addr : Byte) (s : State) : Result :=
  execBuild .response addr Config.fill0 Config.fill1 s

end Sys2Proof.Machine
end

