-- ==== Sys2Proof/Machine/Transport.lean ====
section
/-!
DEFINITION. The transport engine: EXCHANGE in the small-step form of spec/41_transport.md R166, which R150 to R162
detail: one engine step starts the exchange, then one engine step per transfer.
-/

namespace Sys2Proof.Machine

/-- X_start, without a transfer (R151, R166). -/
def startExchange (s : State) : State :=
  { traceAttempt s with reply := Frame.zero, txi := 0, rxn := 0, sync := .seeking, xph := .req }

/-- The byte to transmit: `REQ[TXI]` in phase 1, the filler in phase 2 (R152, R157). -/
def byteToSend (s : State) : Option Byte :=
  if s.xph = .req then s.req.get? s.txi.toNat else some Config.fillerTx

/-- Is the transfer under way the first of the exchange (R153, R166). -/
def isFirstTransfer (s : State) : Bool := s.xph == .req && s.txi == 0

/-- TXI counts the request bytes transmitted (R25). -/
def countTx (s : State) : State :=
  if s.xph = .req then { s with txi := s.txi + 1 } else s

/-- Accept a received byte: `REPLY[RXN] <- rx ; RXN <- RXN + 1 ; SYNC <- Accepting` (R155). -/
def storeReply (rx : Byte) (s : State) : Option State :=
  (s.reply.set? s.rxn.toNat rx).map fun r => { s with reply := r, rxn := s.rxn + 1, sync := .accepting }

/-- The receive rule of R156: accept or discard. -/
def receiveByte (first : Bool) (rx : Byte) (s : State) : Option State :=
  if acceptsByte first s.sync rx then storeReply rx s else some s

/-- The two tests at the end of X_step: the reply is full, or phase 1 is over (R158, R162, R166). -/
def settleExchange (s : State) : State :=
  if s.rxn = 6 then { s with success := verify s.params s.req s.reply, xph := .idle }
  else if s.xph = .req ∧ s.txi = 6 then { s with xph := .fill }
  else s

/-- What X_step does once the link has answered (R166). -/
def afterTransfer (tx rx : Byte) (s : State) : Result :=
  match receiveByte (isFirstTransfer s) rx (countTx (traceByte tx rx s)) with
  | some t => .next (settleExchange t)
  | none => .fault .noSuchOffset

/-- X_step, one transfer (R166). -/
def transferStep (s : State) : Result :=
  match byteToSend s with
  | some tx => xfer tx (afterTransfer tx) s
  | none => .fault .noSuchOffset

/-- EXCHANGE, one engine step of it: X_start when none is under way, else X_step (R150, R166). It ends in the step
that sets X_IDLE again. -/
def execExchange (s : State) : Result :=
  if s.xph = .idle then .next (startExchange s) else transferStep s

end Sys2Proof.Machine
end

