-- ==== Sys2Proof/Machine/DeviceOps.lean ====
section
/-!
DEFINITION. The command sequencer: TURNON, TURNOFF, DISPENSE, CHECKALL, GETSTATE (spec/43_device_ops.md R210 to R222).
A device operation is a series of BUILD and EXCHANGE pairs. Its meaning is one engine step of it: acceptance, or
BUILD with the start of the exchange, or one transfer; the step that ends an exchange also does what the sequencer
does on its return (R166, R210).
-/

namespace Sys2Proof.Machine

/-- One engine step of the pair `BUILD(...) ; EXCHANGE()`: `build` and X_start, or one transfer; when that transfer
ends the exchange, `resume` (R210, R224). -/
def drivePair (build resume : State → Result) (s : State) : Result :=
  if s.xph = .idle then
    match build s with
    | .next t => execExchange t
    | .fault r => .fault r
    | .refused r => .refused r
  else
    match execExchange s with
    | .next t => if t.xph = .idle then resume t else .next t
    | .fault r => .fault r
    | .refused r => .refused r

/-- One engine step of a device operation: accepted and begun when idle (R103); carried on while it is the command
in progress; otherwise not accepted (R103). -/
def deviceOp (op : BitVec 3) (a : Byte) (d : Half) (begin : State → State) (build resume : State → Result)
    (s : State) : Result :=
  match s.hstate with
  | .idle => .next (begin (accept op a d s))
  | .busy => if inProgress op a d s then drivePair build resume s else .refused .commandWhileBusy

/-- The first command exchange is next (R210). -/
def beginCommand (s : State) : State := { s with seq := .cmd }

/-- The request of a one-exchange operation, in S_CMD only (R211 to R213). -/
def buildInCmd (build : State → Result) (s : State) : Result :=
  match s.seq with
  | .cmd => build s
  | .fetch => .fault .noEnabledStep
  | .none => .fault .noEnabledStep

/-- `return (SUCCESS, 0, 0)` (R211 to R213). -/
def returnSuccess (s : State) : Result :=
  if s.success then .next (endDeviceOp true 0x00 0x00 s) else .next (takeTransmissionError false false s)

/-- TURNON (R211). -/
def execTurnOn (addr : Byte) (d : Half) (s : State) : Result :=
  deviceOp 2 addr d beginCommand (buildInCmd (execReqStart addr)) returnSuccess s

/-- TURNOFF (R212). -/
def execTurnOff (addr : Byte) (d : Half) (s : State) : Result :=
  deviceOp 3 addr d beginCommand (buildInCmd (execReqStop addr)) returnSuccess s

/-- DISPENSE (R213): it sends one frame; it neither times nor waits. -/
def execDispense (addr : Byte) (duration : Half) (s : State) : Result :=
  deviceOp 4 addr duration beginCommand (buildInCmd (execReqDispense addr duration)) returnSuccess s

/-- CHECKALL begins at address 1; with `count = 0` it ends at once (R214). -/
def beginScan (count : Byte) (s : State) : State :=
  if count = 0 then endDeviceOp true 0x00 0x00 s else { s with scanAddr := 1, seq := .cmd }

/-- The request CHECKALL sends for SCAN_ADDR (R214). -/
def buildScan (s : State) : Result :=
  match s.seq with
  | .cmd => execReqCheck s.scanAddr s
  | .fetch => execReqResponse s.scanAddr s
  | .none => .fault .noEnabledStep

/-- The status byte, offset 4 of a RESPONSE reply (R218). -/
def statusByte (s : State) : Byte := s.reply.payload0

/-- After both exchanges of an address succeeded: a fault is reported, the last address ends the scan, else the
next address; the end test comes before the increment (R214). -/
def scanVerdict (count : Byte) (s : State) : State :=
  if statusByte s ≠ 0x00 then endDeviceOp true s.scanAddr (statusByte s) s
  else if s.scanAddr = count then endDeviceOp true 0x00 0x00 s
  else { s with scanAddr := s.scanAddr + 1, seq := .cmd }

/-- What CHECKALL does when an exchange returns (R214). -/
def resumeScan (count : Byte) (s : State) : Result :=
  if s.success then
    match s.seq with
    | .cmd => .next { s with seq := .fetch }
    | .fetch => .next (scanVerdict count s)
    | .none => .fault .noEnabledStep
  else .next (takeTransmissionError true true s)

/-- CHECKALL (R214). -/
def execCheckAll (count : Byte) (d : Half) (s : State) : Result :=
  deviceOp 5 count d (beginScan count) buildScan (resumeScan count) s

/-- The request GETSTATE sends (R215). -/
def buildGetState (addr : Byte) (s : State) : Result :=
  match s.seq with
  | .cmd => execReqGetState addr s
  | .fetch => execReqResponse addr s
  | .none => .fault .noEnabledStep

/-- What GETSTATE does when an exchange returns (R215). -/
def resumeGetState (s : State) : Result :=
  if s.success then
    match s.seq with
    | .cmd => .next { s with seq := .fetch }
    | .fetch => .next (endDeviceOp true (statusByte s) 0x00 s)
    | .none => .fault .noEnabledStep
  else .next (takeTransmissionError true false s)

/-- GETSTATE (R215). -/
def execGetState (addr : Byte) (d : Half) (s : State) : Result :=
  deviceOp 6 addr d beginCommand (buildGetState addr) resumeGetState s

end Sys2Proof.Machine
end

