-- ==== Sys2Proof/Machine/Enumerator.lean ====
section
/-!
DEFINITION. The bus enumerator: ASSIGN in the small-step form of spec/42_enumerator.md R198, which R190 to R197
detail: one engine step accepts the command, then one engine step per transfer.
-/

namespace Sys2Proof.Machine

/-- The sentinel has arrived: store the count and end the command (R193, R194). -/
def endAssign (s : State) : State :=
  endCommand true (slaveCount s.erx) 0x00
    { s with numDispensers := slaveCount s.erx, numValid := true, estate := .idle }

/-- The primer transfer; the byte it receives is dropped (R191). -/
def primerStep (s : State) : Result :=
  xfer s.params.primer (fun _ t => .next { t with estate := .poll }) s

/-- One poll: transmit 0x00, keep the answer in ERX, go on or end (R192). -/
def pollStep (s : State) : Result :=
  xfer Config.fillerTx (fun rx t =>
    if notYetAnswered rx then .next { t with erx := rx } else .next (endAssign { t with erx := rx })) s

/-- ASSIGN, one engine step of it (R190, R198): accepted when idle, then the primer, then polls. -/
def execAssign (a : Byte) (d : Half) (s : State) : Result :=
  match s.hstate with
  | .idle => .next { accept 1 a d s with estate := .primer }
  | .busy =>
    if inProgress 1 a d s then
      match s.estate with
      | .primer => primerStep s
      | .poll => pollStep s
      | .idle => .fault .noEnabledStep
    else .refused .commandWhileBusy

end Sys2Proof.Machine
end

