-- ==== Sys2Proof/Machine/Housekeeping.lean ====
section
/-!
DEFINITION. The housekeeping commands SETDEBUG and BUSRESET (spec/43_device_ops.md R216, R217, R225). They make no
transfer and end in the step that accepts them.
-/

namespace Sys2Proof.Machine

/-- SETDEBUG (R216): every level is stored as written. -/
def execSetDebug (level : Byte) (d : Half) (s : State) : Result :=
  match s.hstate with
  | .idle => .next (endCommand true 0x00 0x00 { accept 7 level d s with debugLevel := level })
  | .busy => .refused .commandWhileBusy

/-- BUSRESET (R217): one bus-reset event, and the session has no slave count any more (R292). CUR_OP, OP_ADDR and
OP_DUR are unchanged (R36, R290, R291; log entry 9). -/
def execBusReset (_ : Byte) (_ : Half) (s : State) : Result :=
  match s.hstate with
  | .idle => .next (endCommand true 0x00 0x00 { busResetEvent s with numValid := false })
  | .busy => .refused .commandWhileBusy

end Sys2Proof.Machine
end

