-- ==== Sys2Proof/Machine/Dispatch.lean ====
section
/-!
DEFINITION. One arm per instruction.
-/

namespace Sys2Proof.Machine

def exec (i : Instr) (s : State) : Host.Outcome State Fault Refusal :=
  match i with
  | .reqStart addr => Sys2Proof.Machine.execReqStart addr s
  | .reqStop addr => Sys2Proof.Machine.execReqStop addr s
  | .reqDispense addr duration => Sys2Proof.Machine.execReqDispense addr duration s
  | .reqCheck addr => Sys2Proof.Machine.execReqCheck addr s
  | .reqGetState addr => Sys2Proof.Machine.execReqGetState addr s
  | .reqResponse addr => Sys2Proof.Machine.execReqResponse addr s
  | .busReset a d => Sys2Proof.Machine.execBusReset a d s
  | .assign a d => Sys2Proof.Machine.execAssign a d s
  | .turnOn addr d => Sys2Proof.Machine.execTurnOn addr d s
  | .turnOff addr d => Sys2Proof.Machine.execTurnOff addr d s
  | .dispense addr duration => Sys2Proof.Machine.execDispense addr duration s
  | .checkAll count d => Sys2Proof.Machine.execCheckAll count d s
  | .getState addr d => Sys2Proof.Machine.execGetState addr d s
  | .setDebug level d => Sys2Proof.Machine.execSetDebug level d s
  | .build kind addr p0 p1 => Sys2Proof.Machine.execBuild kind addr p0 p1 s
  | .exchange => Sys2Proof.Machine.execExchange s

end Sys2Proof.Machine
end

