-- ==== Sys2Proof/Machine/Fetch.lean ====
section
/-!
DEFINITION. Where the next engine step finds its instruction. There is no program counter (spec/10_state.md R24,
R39): an idle engine takes the word the host offers (30_encoding.md R103), a busy one carries on the command its
latches hold (R24).
-/

namespace Sys2Proof.Machine

/-- The command word of the command in progress: CUR_OP, OP_ADDR, OP_DUR as R103 latched them. -/
def latchedWord (s : State) : Word32 := commandWord (s.curOp.setWidth 8) s.opAddr s.opDur

/-- The word that decides the next step, and the state in which it is carried out; none when the engine is idle
and the host offers nothing (R39). -/
def fetch (s : State) : Option (Word32 × State) :=
  match s.hstate with
  | .busy => some (latchedWord s, s)
  | .idle =>
    match s.cmds with
    | w :: ws => some (w, { s with cmds := ws })
    | [] => none

/-- Place a command word where an idle engine fetches it. -/
def offerWord (w : Word32) (s : State) : State :=
  { s with rst := false, hstate := .idle, cmds := w :: s.cmds }

/-- The control state from which the next step sends a request: a busy engine between exchanges (R210). -/
def sequencerAt (op : BitVec 3) (phase : SeqPhase) (addr : Byte) (d : Half) (s : State) : State :=
  { s with rst := false, hstate := .busy, curOp := op, opAddr := addr, opDur := d, scanAddr := addr, seq := phase
           xph := .idle, estate := .idle }

/-- Place an instruction so that the next step runs it: a host command is offered by the host; a request frame is
sent by the command that sends it, whose sequencer stands before it (log entry 3). A micro-operation has no
encoding and is not placed. -/
def placeInstr (i : Instr) (w : Word32) (s : State) : State :=
  match i with
  | .reqStart addr => sequencerAt 2 .cmd addr 0 s
  | .reqStop addr => sequencerAt 3 .cmd addr 0 s
  | .reqDispense addr d => sequencerAt 4 .cmd addr d s
  | .reqCheck addr => sequencerAt 5 .cmd addr 0 s
  | .reqGetState addr => sequencerAt 6 .cmd addr 0 s
  | .reqResponse addr => sequencerAt 6 .fetch addr 0 s
  | .build _ _ _ _ => s
  | .exchange => s
  | .busReset _ _ => offerWord w s
  | .assign _ _ => offerWord w s
  | .turnOn _ _ => offerWord w s
  | .turnOff _ _ => offerWord w s
  | .dispense _ _ => offerWord w s
  | .checkAll _ _ => offerWord w s
  | .getState _ _ => offerWord w s
  | .setDebug _ _ => offerWord w s

end Sys2Proof.Machine
end

