-- ==== Sys2Proof/Machine/Step.lean ====
section
/-!
DEFINITION. One engine step.
-/

namespace Sys2Proof.Machine

/-- One engine step: engine reset if it is asserted (R290); else the instruction fetched; an idle engine that is
offered nothing stays as it is (R39, R265); a word that is no command is not accepted (R103). -/
def step (s : State) : Host.Outcome State Fault Refusal :=
  if s.rst then .next (engineReset s)
  else
    match fetch s with
    | none => .next s
    | some (w, t) =>
      match decodeCommand w with
      | .instr i => exec i t
      | .rejected r => .refused (.notAccepted r)

/-- `s` with the instruction of a table row's word placed where the next step finds it (log entry 3). A 32-bit word
that is no command is offered all the same; any other word that is no instruction changes nothing. -/
def State.withFetchWord (s : State) (nbits w : Nat) : State :=
  match decodeTableWord nbits w with
  | some i => placeInstr i (BitVec.ofNat 32 w) s
  | none => if nbits = 32 then offerWord (BitVec.ofNat 32 w) s else s

end Sys2Proof.Machine
end

