-- ==== Sys2Proof/Safety.lean ====
section
/-!
DEFINITION. The terms claims are stated in: runs of steps, the control-state invariant of spec/10_state.md R24 to R29,
the closed form of an exchange (41_transport.md R167) and of an enumeration (42_enumerator.md R200), a well-behaved
chain of slaves as a script (95_test_vectors.md S7; a hypothesis of claims only, 20_memory.md R67), and what is left of
a state when the trace is forgotten (R30).
-/

namespace Sys2Proof.Machine

/-- `k` engine steps, stopping at the first stop. -/
def steps : Nat → State → Result
  | 0, s => .next s
  | k + 1, s =>
    match step s with
    | .next t => steps k t
    | .fault r => .fault r
    | .refused r => .refused r

/-- `k` engine steps of one instruction carried on, stopping at the first stop. -/
def execTimes (i : Instr) : Nat → State → Result
  | 0, s => .next s
  | k + 1, s =>
    match exec i s with
    | .next t => execTimes i k t
    | .fault r => .fault r
    | .refused r => .refused r

/-- The next state of an answer, if it is one. -/
def nextOf : Result → Option State
  | .next t => some t
  | .fault _ => none
  | .refused _ => none

/-- The fault of an answer, if it is one. -/
def faultOf : Result → Option Fault
  | .next _ => none
  | .fault r => some r
  | .refused _ => none

/-- The refusal of an answer, if it is one. -/
def refusalOf : Result → Option Refusal
  | .next _ => none
  | .fault _ => none
  | .refused r => some r

/-! ## The control state -/

/-- The request of the exchange a device operation is in, from CUR_OP, SEQ and the latches (R210 to R215). -/
def requestOfControl (s : State) : Option Frame :=
  match s.curOp.toNat, s.seq with
  | 2, .cmd => some (placeholderFrame s.params .start s.opAddr)
  | 3, .cmd => some (placeholderFrame s.params .stop s.opAddr)
  | 4, .cmd => some (dispenseFrame s.params s.opAddr s.opDur)
  | 5, .cmd => some (placeholderFrame s.params .check s.scanAddr)
  | 5, .fetch => some (placeholderFrame s.params .response s.scanAddr)
  | 6, .cmd => some (placeholderFrame s.params .getState s.opAddr)
  | 6, .fetch => some (placeholderFrame s.params .response s.opAddr)
  | _, _ => none

/-- The invariants the spec states of the control state. -/
structure ControlInv (s : State) : Prop where
  /-- an idle engine has no exchange, no enumeration and no device operation (R24) -/
  idleQuiet : s.hstate = .idle → s.xph = .idle ∧ s.estate = .idle ∧ s.seq = .none
  /-- a busy engine runs ASSIGN, or a device operation with a request of its own (R24) -/
  busyRuns : s.hstate = .busy →
    (s.curOp = 1 ∧ s.estate ≠ .idle ∧ s.xph = .idle ∧ s.seq = .none) ∨
      (s.estate = .idle ∧ (requestOfControl s).isSome)
  /-- the request being transmitted and compared is the one the command built (R73) -/
  requestStable : s.xph ≠ .idle → requestOfControl s = some s.req
  /-- SYNC is Accepting exactly when RXN > 0 (R27) -/
  syncRxn : s.sync = .accepting ↔ s.rxn ≠ 0
  /-- in phase 1, TXI is below 6 and fewer bytes are accepted than transferred (R25, R159) -/
  phaseOne : s.xph = .req → s.txi.toNat < 6 ∧ s.rxn.toNat ≤ s.txi.toNat - 1
  /-- in phase 2, TXI is 6 and the reply is not full (R25, R157) -/
  phaseTwo : s.xph = .fill → s.txi = 6 ∧ s.rxn.toNat < 6
  /-- once a byte is accepted, the first one was the sync byte (R75) -/
  replySync : s.rxn ≠ 0 → s.reply.header0 = Config.syncByte
  /-- CHECKALL's address runs from 1 to the count (R32) -/
  scanRange : s.hstate = .busy → s.curOp = 5 → 1 ≤ s.scanAddr.toNat ∧ s.scanAddr.toNat ≤ s.opAddr.toNat
  /-- a valid slave count is at most 253 (R29, R195) -/
  countRange : s.numValid = true → s.numDispensers.toNat ≤ 253

/-- The host's test of a slave count in its INIT loop, `count <= MAX_DISPENSERS`; the engine never makes it
(R107, R196, R294). -/
def hostAcceptsCount (count : Byte) : Bool := count.toNat ≤ Config.maxDispensers

/-! ## Closed forms -/

/-- The transfers of an exchange of `req` that receives `rxs`: the request, then fillers (R167). -/
def exchangeEvents (req : Frame) (rxs : List Byte) : List WireEvent :=
  List.zipWith WireEvent.xfer (req.bytes ++ List.replicate (rxs.length - 6) Config.fillerTx) rxs

/-- What an exchange leaves that accepted `reply` and left `rest` of the script (R167); its trace apart. -/
def exchangeEnd (reply : Frame) (events : List WireEvent) (rest : List Byte) (s : State) : State :=
  { s with
    reply := reply, txi := 6, rxn := 6, sync := .accepting, xph := .idle
    success := verify s.params s.req reply, script := rest, wire := s.wire ++ events }

/-- No byte of the padding is the sync byte (R167, R171 c). -/
abbrev noSync (pad : List Byte) : Prop := ∀ b ∈ pad, b ≠ Config.syncByte

/-- Every byte of the waiting is 0x00 or the sync byte (R192, R200). -/
abbrev allNotYet (waits : List Byte) : Prop := ∀ b ∈ waits, notYetAnswered b = true

/-- The transfers of an ASSIGN: the primer, then polls (R190, R191, R192). -/
def assignEvents (primer first : Byte) (polls : List Byte) : List WireEvent :=
  .xfer primer first :: polls.map (WireEvent.xfer Config.fillerTx)

/-! ## A well-behaved slave as a script -/

/-- One reply as the link delivers it: a first byte that is thrown away, padding, and the frame (R167, R171 c). -/
structure Delivery where
  first : Byte
  pad : List Byte
  frame : Frame
  deriving DecidableEq, Repr

/-- The received bytes of a delivery. -/
def Delivery.bytes (v : Delivery) : List Byte := v.first :: v.pad ++ v.frame.bytes

/-- The frame is found where it starts: the padding holds no sync byte and the frame begins with one (R167). -/
abbrev Delivery.clean (v : Delivery) : Prop := noSync v.pad ∧ v.frame.header0 = Config.syncByte

/-- The engine steps of an exchange that receives a delivery: X_start and one step per transfer (R159, R166). -/
def Delivery.steps (v : Delivery) : Nat := 1 + v.bytes.length

/-- A healthy slave's part in a scan: its echo of CHECK and its answer to RESPONSE, with the lead of each (S7). -/
structure SlaveTurn where
  first1 : Byte
  pad1 : List Byte
  first2 : Byte
  pad2 : List Byte
  status : Byte
  reserved : Byte
  deriving DecidableEq, Repr

/-- The slave echoes the CHECK request (R134). -/
def SlaveTurn.echo (p : Params) (addr : Byte) (v : SlaveTurn) : Delivery :=
  ⟨v.first1, v.pad1, placeholderFrame p .check addr⟩

/-- The slave answers the RESPONSE request with its status (R97, R136). -/
def SlaveTurn.answer (p : Params) (addr : Byte) (v : SlaveTurn) : Delivery :=
  ⟨v.first2, v.pad2, requestFrame p .response addr v.status v.reserved⟩

/-- The padding of both replies holds no sync byte. -/
abbrev SlaveTurn.clean (v : SlaveTurn) : Prop := noSync v.pad1 ∧ noSync v.pad2

/-- The script of a chain of slaves from address `addr` on. -/
def chainScript (p : Params) : Byte → List SlaveTurn → List Byte
  | _, [] => []
  | addr, v :: vs => (v.echo p addr).bytes ++ (v.answer p addr).bytes ++ chainScript p (addr + 1) vs

/-- The first address whose status is not zero, with that status; (0, 0) when there is none (R214). -/
def firstFaulty : Byte → List SlaveTurn → Byte × Byte
  | _, [] => (0x00, 0x00)
  | addr, v :: vs => if v.status ≠ 0x00 then (addr, v.status) else firstFaulty (addr + 1) vs

/-- The transfers of a scan, which halts at the first faulty slave (R214, S7). -/
def scanEvents (p : Params) : Byte → List SlaveTurn → List WireEvent
  | _, [] => []
  | addr, v :: vs =>
    exchangeEvents (placeholderFrame p .check addr) (v.echo p addr).bytes ++
      exchangeEvents (placeholderFrame p .response addr) (v.answer p addr).bytes ++
      (if v.status ≠ 0x00 then [] else scanEvents p (addr + 1) vs)

/-! ## The engine without its trace -/

/-- The state without DEBUG_LEVEL and the trace, which nothing else may depend on (R30). -/
def State.untraced (s : State) : State :=
  { s with debugLevel := 0, trace := [], traceDraws := 0 }

/-- An answer without DEBUG_LEVEL and the trace. -/
def untracedResult : Result → Result
  | .next t => .next t.untraced
  | .fault r => .fault r
  | .refused r => .refused r

/-- The session and diagnostic registers and the parameters, which no device operation writes (R219, R256). -/
def sessionOf (s : State) : Params × Byte × Bool × Byte :=
  (s.params, s.numDispensers, s.numValid, s.debugLevel)

end Sys2Proof.Machine
end

