-- ==== Sys2Proof/Certificates/Slice0/Obligations.lean ====
section
/-!
DEFINITION. The statements for the provers, from the numbered rules of spec/. Each docstring says which rule it
formalises; where a clause is the model's own choice it names the log entry.
-/

open Sys2Proof Sys2Proof.Machine

/-! ## Encoding -/

/-- Words and frames written out in 95_test_vectors.md, and what they decode to: six words of part 6 (R101 to R103), a
DISPENSE frame of part 2 and the frame of V6 in part 9 under CFG_ALT (R90, R93, R96, R110). -/
def Obligations.SpecWordsDecode : Prop :=
  decodeCommand 0x00000000 = .instr (.busReset 0x00 0x0000) ∧
  decodeCommand 0x01AB1234 = .instr (.assign 0xAB 0x1234) ∧
  decodeCommand 0x0203BEEF = .instr (.turnOn 0x03 0xBEEF) ∧
  decodeCommand 0x040301F4 = .instr (.dispense 0x03 500) ∧
  decodeCommand 0x07020000 = .instr (.setDebug 0x02 0x0000) ∧
  decodeCommand 0xFF030000 = .rejected (.reservedOp 0xFF) ∧
  decodeFrame Params.ref ⟨0xFF, 0xFF, 0x03, 0x03, 0xF4, 0x01⟩ = .instr (.reqDispense 0x03 500) ∧
  decodeFrame Params.alt ⟨0xFF, 0xFF, 0x02, 0x20, 0xA0, 0xA1⟩ = .instr (.reqResponse 0x02)

/-- Decode and encode agree: every instruction that has an encoding is read back from it, at every operand and under
every legal parameter setting (R6, R90 to R96, R101, R102). -/
def Obligations.DecodeOfEncode : Prop :=
  ∀ (p : Params) (i : Instr) (e : Encoding), p.Wf → encode p i = some e → decode p e = .instr i

/-- The other direction for command words: a word decodes to a command exactly when its `op` is 0x00 to 0x07, and the
command's encoding is the word itself, so no bit is dropped; every other word is rejected by name (R101 to R103). -/
def Obligations.CommandWordsExact : Prop :=
  ∀ (p : Params) (w : Word32),
    ((wordOp w).toNat < 8 → ∃ i, decodeCommand w = .instr i ∧ encode p i = some (.command w)) ∧
    (8 ≤ (wordOp w).toNat → decodeCommand w = .rejected (.reservedOp (wordOp w)))

/-- Every request frame has the layout of R90: sync marker, address, TYPE_CODE of the kind, and the placeholder payload
for every kind but DISPENSE; and the frame the encoder gives satisfies the table's `request_match`. -/
def Obligations.RequestFrameLayout : Prop :=
  ∀ (p : Params) (i : Instr) (f : Frame), p.Wf → encode p i = some (.frame f) →
    f.header0 = 0xFF ∧ f.header1 = 0xFF ∧ isRequestFrame p f = true ∧
      ((∃ addr d, i = .reqDispense addr d ∧ f.address = addr ∧ f.typeByte = p.typeCode .dispense ∧
          payloadDuration p.durOrder f.payload0 f.payload1 = d) ∨
        (f.payload0 = 0xA0 ∧ f.payload1 = 0xA1 ∧ ∃ addr, f.address = addr ∧
          ((i = .reqStart addr ∧ f.typeByte = p.typeCode .start) ∨ (i = .reqStop addr ∧ f.typeByte = p.typeCode .stop) ∨
            (i = .reqCheck addr ∧ f.typeByte = p.typeCode .check) ∨
            (i = .reqGetState addr ∧ f.typeByte = p.typeCode .getState) ∨
            (i = .reqResponse addr ∧ f.typeByte = p.typeCode .response))))

/-- The two duration bytes carry the duration, and the two orders are each other's swap (R62, R96). -/
def Obligations.DurationBytes : Prop :=
  ∀ (d : Half) (o : DurOrder),
    payloadDuration o (durationPayload o d).1 (durationPayload o d).2 = d ∧
    durationPayload .le d = (d.extractLsb' 0 8, d.extractLsb' 8 8) ∧
    durationPayload .be d = ((durationPayload .le d).2, (durationPayload .le d).1)

/-! ## Codec -/

/-- BUILD writes the six bytes of REQ and nothing else, whatever its operands (R130). -/
def Obligations.BuildWritesRequest : Prop :=
  ∀ (s : State) (kind : Kind) (addr p0 p1 : Byte),
    exec (.build kind addr p0 p1) s = .next { s with req := ⟨0xFF, 0xFF, addr, s.params.typeCode kind, p0, p1⟩ }

/-- The six request frames (R131 to R136): each writes REQ with its kind, the address and its payload, and nothing
else. -/
def Obligations.RequestsBuilt : Prop :=
  ∀ (s : State) (addr : Byte) (d : Half),
    exec (.reqStart addr) s = .next { s with req := ⟨0xFF, 0xFF, addr, s.params.typeCode .start, 0xA0, 0xA1⟩ } ∧
    exec (.reqStop addr) s = .next { s with req := ⟨0xFF, 0xFF, addr, s.params.typeCode .stop, 0xA0, 0xA1⟩ } ∧
    exec (.reqDispense addr d) s = .next { s with req := ⟨0xFF, 0xFF, addr, s.params.typeCode .dispense,
      (durationPayload s.params.durOrder d).1, (durationPayload s.params.durOrder d).2⟩ } ∧
    exec (.reqCheck addr) s = .next { s with req := ⟨0xFF, 0xFF, addr, s.params.typeCode .check, 0xA0, 0xA1⟩ } ∧
    exec (.reqGetState addr) s = .next { s with req := ⟨0xFF, 0xFF, addr, s.params.typeCode .getState, 0xA0, 0xA1⟩ } ∧
    exec (.reqResponse addr) s = .next { s with req := ⟨0xFF, 0xFF, addr, s.params.typeCode .response, 0xA0, 0xA1⟩ }

/-! ## EXCHANGE -/

/-- The link's answers (R66, R67): the listed ones in order; after them what the tail says, where the oracle is under no
law (log entry 4); a stalled link never answers. -/
def Obligations.LinkAnswers : Prop :=
  ∀ (s : State) (tx : Byte),
    (∀ rx rest, s.script = rx :: rest → linkReturns tx s = some rx) ∧
    (s.script = [] → (∀ b, s.tail = .repeats b → linkReturns tx s = some b) ∧
      (s.tail = .stalled → linkReturns tx s = none) ∧
      (s.tail = .oracle → linkReturns tx s = Config.linkAnswer s.wire tx))

/-- An EXCHANGE starts by clearing the reply and the transport control state; nothing of an earlier exchange survives
(R151). Trace apart. -/
def Obligations.ExchangeStarts : Prop :=
  ∀ s : State, s.xph = .idle → ∃ t, exec .exchange s = .next t ∧
    t.reply = ⟨0x00, 0x00, 0x00, 0x00, 0x00, 0x00⟩ ∧ t.txi = 0 ∧ t.rxn = 0 ∧ t.sync = .seeking ∧ t.xph = .req ∧
    t = { s with reply := t.reply, txi := t.txi, rxn := t.rxn, sync := t.sync, xph := t.xph
                 trace := t.trace, traceDraws := t.traceDraws }

/-- Phase 1 transmits the request bytes in ascending offset, phase 2 transmits 0x00; each transfer hands one byte to the
link and takes the link's one answer (R61, R66 a, R152, R157). -/
def Obligations.ExchangeTransmits : Prop :=
  ∀ (s : State) (tx rx : Byte), s.rxn.toNat < 6 → linkReturns tx s = some rx →
    (s.xph = .req → s.req.bytes[s.txi.toNat]? = some tx → ∃ t, exec .exchange s = .next t ∧
      t.wire = s.wire ++ [.xfer tx rx] ∧ t.txi = s.txi + 1 ∧ t.script = s.script.tail) ∧
    (s.xph = .fill → tx = 0x00 → ∃ t, exec .exchange s = .next t ∧
      t.wire = s.wire ++ [.xfer tx rx] ∧ t.txi = s.txi ∧ t.script = s.script.tail)

/-- The byte of the first transfer, the one that transmits REQ[0], is discarded whatever its value, 0xFF included: it is
not written to REPLY and changes neither RXN nor SYNC (R153). -/
def Obligations.FirstByteDiscarded : Prop :=
  ∀ (s : State) (rx : Byte), s.xph = .req → s.txi = 0 → s.rxn ≠ 6 → linkReturns s.req.header0 s = some rx →
    ∃ t, exec .exchange s = .next t ∧ t.reply = s.reply ∧ t.rxn = s.rxn ∧ t.sync = s.sync ∧ t.success = s.success ∧
      t.txi = 1 ∧ t.xph = .req ∧ t.wire = s.wire ++ [.xfer s.req.header0 rx]

/-- While Seeking, from the second transfer on, every byte other than 0xFF is discarded (R154): only the transfer itself
and the count of request bytes are seen in the next state. -/
def Obligations.SeekingDiscards : Prop :=
  ∀ (s : State) (tx rx : Byte), byteToSend s = some tx → linkReturns tx s = some rx → s.sync = .seeking → s.rxn ≠ 6 →
    rx ≠ 0xFF → ((s.xph = .req ∧ 1 ≤ s.txi.toNat) ∨ s.xph = .fill) →
    ∃ t, exec .exchange s = .next t ∧
      t = { s with txi := t.txi, xph := t.xph, script := t.script, wire := t.wire, trace := t.trace
                   traceDraws := t.traceDraws }

/-- From the second transfer on, the first 0xFF is accepted and so is every byte once Accepting, whatever its value; the
byte goes to REPLY[RXN] and no other byte of REPLY changes (R155). -/
def Obligations.AcceptingStores : Prop :=
  ∀ (s : State) (tx rx : Byte), byteToSend s = some tx → linkReturns tx s = some rx → s.rxn.toNat < 6 →
    (s.sync = .accepting ∨ rx = 0xFF) → ((s.xph = .req ∧ 1 ≤ s.txi.toNat) ∨ s.xph = .fill) →
    ∃ t, exec .exchange s = .next t ∧ t.reply.get? s.rxn.toNat = some rx ∧
      (∀ k, k ≠ s.rxn.toNat → t.reply.get? k = s.reply.get? k) ∧ t.rxn = s.rxn + 1 ∧ t.sync = .accepting

/-- When the six request bytes are sent the exchange goes on in phase 2; when the sixth byte is accepted it ends; neither
happens earlier, and until it ends SUCCESS is not written (R25, R28, R152, R158). -/
def Obligations.ExchangePhases : Prop :=
  ∀ (s : State) (tx rx : Byte), byteToSend s = some tx → linkReturns tx s = some rx →
    (s.xph = .req → s.txi.toNat < 5 → s.rxn.toNat < 5 →
      ∃ t, exec .exchange s = .next t ∧ t.xph = .req ∧ t.success = s.success) ∧
    (s.xph = .req → s.txi = 5 → s.rxn.toNat < 5 →
      ∃ t, exec .exchange s = .next t ∧ t.xph = .fill ∧ t.txi = 6 ∧ t.success = s.success) ∧
    (s.xph = .fill → s.rxn.toNat < 5 → ∃ t, exec .exchange s = .next t ∧ t.xph = .fill ∧ t.success = s.success) ∧
    (s.xph = .fill → s.rxn = 5 → s.sync = .accepting → ∃ t, exec .exchange s = .next t ∧ t.xph = .idle ∧ t.rxn = 6)

/-- The result of an exchange: SUCCESS is written in the step of the last transfer, by the comparison of R160 with the
exemption of R161, as the formula of R162; and offset 0 always matches in a command's exchange, because the request is
the one the command built and the first accepted byte was 0xFF (R73, R75). -/
def Obligations.ExchangeVerifies : Prop :=
  ∀ (s : State) (rx : Byte), s.xph = .fill → s.rxn = 5 → s.sync = .accepting → linkReturns 0x00 s = some rx →
    ∃ t, exec .exchange s = .next t ∧ t.xph = .idle ∧ t.reply = { s.reply with payload1 := rx } ∧
      (t.success = true ↔
        (s.req.header0 = t.reply.header0 ∧ s.req.header1 = t.reply.header1 ∧ s.req.address = t.reply.address ∧
          s.req.typeByte = t.reply.typeByte ∧
          (s.req.typeByte = s.params.typeCode .response ∨
            (s.req.payload0 = t.reply.payload0 ∧ s.req.payload1 = t.reply.payload1)))) ∧
      (ControlInv s → s.hstate = .busy → s.req.header0 = t.reply.header0)

/-- EXCHANGE writes nothing but REPLY, the transport control state, SUCCESS and the link; in a transfer no byte of REPLY
but the one at RXN, and starting touches neither the link nor SUCCESS (R150). The trace is apart. -/
def Obligations.ExchangeFrame : Prop :=
  ∀ s t : State, exec .exchange s = .next t →
    t = { s with reply := t.reply, txi := t.txi, rxn := t.rxn, sync := t.sync, xph := t.xph, success := t.success
                 script := t.script, wire := t.wire, trace := t.trace, traceDraws := t.traceDraws } ∧
    (s.xph ≠ .idle → ∀ k, k ≠ s.rxn.toNat → t.reply.get? k = s.reply.get? k) ∧
    (s.xph = .idle → t.script = s.script ∧ t.wire = s.wire ∧ t.success = s.success)

/-- The closed form of R167 with the counts of R159: from X_IDLE, an exchange whose link delivers a frame after a
first byte and padding free of 0xFF takes one start and `j + 6` transfers, transmits REQ and then `j` bytes 0x00, leaves
exactly the delivered frame in REPLY and the verdict on it in SUCCESS, and changes nothing else but the trace. -/
def Obligations.ExchangeClosedForm : Prop :=
  ∀ (s : State) (v : Delivery) (rest : List Byte), s.xph = .idle → v.clean → s.script = v.bytes ++ rest →
    ∃ tr n, execTimes .exchange v.steps s =
      .next { exchangeEnd v.frame (exchangeEvents s.req v.bytes) rest s with trace := tr, traceDraws := n }

/-- R171 (a) and (b): a non-RESPONSE exchange succeeds iff the frame delivered is the request; a RESPONSE exchange iff
the frame delivered has the request's header, address and type, whatever its payload. -/
def Obligations.SuccessIffEcho : Prop :=
  ∀ (s : State) (v : Delivery) (rest : List Byte), s.xph = .idle → v.clean → s.script = v.bytes ++ rest →
    ∃ t, execTimes .exchange v.steps s = .next t ∧
      (s.req.typeByte ≠ s.params.typeCode .response → (t.success = true ↔ v.frame = s.req)) ∧
      (s.req.typeByte = s.params.typeCode .response →
        (t.success = true ↔ (v.frame.header0 = s.req.header0 ∧ v.frame.header1 = s.req.header1 ∧
          v.frame.address = s.req.address ∧ v.frame.typeByte = s.req.typeByte)))

/-- R170: with a link that echoes with no delay, so that the received stream is the request itself and then one byte `x`,
the reply is the request shifted by one byte, and the exchange succeeds exactly when address, type and first payload byte
are all 0xFF and, unless the request is a RESPONSE, so are the second payload byte and `x`. -/
def Obligations.ZeroDelayEchoFails : Prop :=
  ∀ (s : State) (x : Byte) (rest : List Byte), s.xph = .idle → s.req.header0 = 0xFF → s.req.header1 = 0xFF →
    s.script = s.req.bytes ++ x :: rest →
    ∃ t, execTimes .exchange 8 s = .next t ∧ t.xph = .idle ∧
      t.reply = ⟨0xFF, s.req.address, s.req.typeByte, s.req.payload0, s.req.payload1, x⟩ ∧
      (t.success = true ↔
        (s.req.address = 0xFF ∧ s.req.typeByte = 0xFF ∧ s.req.payload0 = 0xFF ∧
          (s.req.typeByte ≠ s.params.typeCode .response → s.req.payload1 = 0xFF ∧ x = 0xFF)))

/-- R172: what an exchange does with REQ and the received bytes depends on nothing else: two states alone in the
parameters, REQ and the script agreeing give equal REPLY and SUCCESS. -/
def Obligations.ExchangeIndependent : Prop :=
  ∀ (s s' : State) (v : Delivery) (rest : List Byte), s.xph = .idle → s'.xph = .idle → v.clean →
    s.params = s'.params → s.req = s'.req → s.script = v.bytes ++ rest → s'.script = v.bytes ++ rest →
    ∃ t t', execTimes .exchange v.steps s = .next t ∧ execTimes .exchange v.steps s' = .next t' ∧
      t.reply = t'.reply ∧ t.success = t'.success ∧ t.xph = t'.xph

/-- Trace events of an exchange (R165): at level 0 none; at 1 and 2 one Attempt at the start; at 2 also one Byte after
every transfer, at 1 none; at 3 to 255 any events, the free value of log entry 6, and the step goes on all the same. -/
def Obligations.TraceByLevel : Prop :=
  ∀ s : State,
    (s.xph = .idle → ∃ t, exec .exchange s = .next t ∧
      t.trace = s.trace ++ (if s.debugLevel = 0 then [] else if s.debugLevel = 1 ∨ s.debugLevel = 2 then [.attempt s.req]
        else Config.freeTrace s.traceDraws)) ∧
    (∀ tx rx : Byte, s.xph ≠ .idle → s.rxn.toNat < 6 → byteToSend s = some tx → linkReturns tx s = some rx →
      ∃ t, exec .exchange s = .next t ∧
        t.trace = s.trace ++ (if s.debugLevel = 0 ∨ s.debugLevel = 1 then [] else if s.debugLevel = 2 then [.byte tx rx]
          else Config.freeTrace s.traceDraws))

/-! ## ASSIGN -/

/-- ASSIGN is accepted by an idle engine: the latches are written and the enumerator is about to send the primer; no
transfer (R103, R198). -/
def Obligations.AssignAccepted : Prop :=
  ∀ (s : State) (a : Byte) (d : Half), s.hstate = .idle →
    exec (.assign a d) s =
      .next { s with hstate := .busy, curOp := 1, opAddr := a, opDur := d, estate := .primer }

/-- The first transfer transmits PRIMER, which is not 0x00; its answer is dropped untested (R191). -/
def Obligations.AssignPrimer : Prop :=
  ∀ (s : State) (a : Byte) (d : Half) (rx : Byte), s.params.Wf → s.hstate = .busy → s.curOp = 1 →
    s.opAddr = a → s.opDur = d → s.estate = .primer → linkReturns s.params.primer s = some rx →
    s.params.primer ≠ 0x00 ∧
    exec (.assign a d) s =
      .next { s with estate := .poll, script := s.script.tail, wire := s.wire ++ [.xfer s.params.primer rx] }

/-- A poll transmits 0x00 and keeps the answer in ERX; 0x00 and 0xFF have no effect beyond going on (R192). -/
def Obligations.AssignPollGoesOn : Prop :=
  ∀ (s : State) (a : Byte) (d : Half) (rx : Byte), s.hstate = .busy → s.curOp = 1 →
    s.opAddr = a → s.opDur = d → s.estate = .poll → linkReturns 0x00 s = some rx → (rx = 0x00 ∨ rx = 0xFF) →
    exec (.assign a d) s = .next { s with erx := rx, script := s.script.tail, wire := s.wire ++ [.xfer 0x00 rx] }

/-- Any other byte is the sentinel: the count is that byte minus one, which does not wrap; it is stored and returned
whatever it is, and the command ends; nothing else changes (R193, R194, R196). -/
def Obligations.SentinelEndsAssign : Prop :=
  ∀ (s : State) (a : Byte) (d : Half) (rx : Byte), s.hstate = .busy → s.curOp = 1 →
    s.opAddr = a → s.opDur = d → s.estate = .poll → linkReturns 0x00 s = some rx → rx ≠ 0x00 → rx ≠ 0xFF →
    (rx - 1).toNat = rx.toNat - 1 ∧ (rx - 1).toNat ≤ 253 ∧
    exec (.assign a d) s =
      .next { s with
        erx := rx, numDispensers := rx - 1, numValid := true, estate := .idle, hstate := .idle
        resOk := true, resA := rx - 1, resB := 0x00, resWritten := true
        script := s.script.tail, wire := s.wire ++ [.xfer 0x00 rx] }

/-- The property of R200 over a whole run: from an offered ASSIGN, if the polls are answered by any number of bytes
from {0x00, 0xFF} and then by `n + 1` with `n` at most 253, the machine ends the command with the count `n`, having sent
the primer and one 0x00 per poll; ERX keeps the sentinel. -/
def Obligations.AssignCounts : Prop :=
  ∀ (s : State) (w : Word32) (ws : List Word32) (a : Byte) (d : Half) (first : Byte) (waits : List Byte) (n : Byte)
    (rest : List Byte), s.rst = false → s.hstate = .idle → s.cmds = w :: ws → decodeCommand w = .instr (.assign a d) →
    allNotYet waits → n.toNat ≤ 253 → s.script = first :: waits ++ (n + 1) :: rest →
    steps (waits.length + 3) s = .next { s with
      cmds := ws, curOp := 1, opAddr := a, opDur := d, estate := .idle, erx := n + 1
      numDispensers := n, numValid := true, resOk := true, resA := n, resB := 0x00, resWritten := true
      script := rest, wire := s.wire ++ assignEvents s.params.primer first (waits ++ [n + 1]) }

/-! ## Device operations -/

/-- Acceptance (R103) of the five device operations by an idle engine: HSTATE, CUR_OP, OP_ADDR and OP_DUR are latched,
SEQ is S_CMD, CHECKALL starts at address 1; no transfer. -/
def Obligations.DeviceOpsAccepted : Prop :=
  ∀ (s : State) (a : Byte) (d : Half), s.hstate = .idle →
    exec (.turnOn a d) s = .next { s with hstate := .busy, curOp := 2, opAddr := a, opDur := d, seq := .cmd } ∧
    exec (.turnOff a d) s = .next { s with hstate := .busy, curOp := 3, opAddr := a, opDur := d, seq := .cmd } ∧
    exec (.dispense a d) s = .next { s with hstate := .busy, curOp := 4, opAddr := a, opDur := d, seq := .cmd } ∧
    (a ≠ 0 → exec (.checkAll a d) s =
      .next { s with hstate := .busy, curOp := 5, opAddr := a, opDur := d, scanAddr := 1, seq := .cmd }) ∧
    exec (.getState a d) s = .next { s with hstate := .busy, curOp := 6, opAddr := a, opDur := d, seq := .cmd }

/-- CHECKALL with `count = 0` ends at once with (1, 0, 0) and makes no transfer (R214). -/
def Obligations.EmptyScan : Prop :=
  ∀ (s : State) (d : Half), s.hstate = .idle →
    exec (.checkAll 0 d) s = .next { s with
      curOp := 5, opAddr := 0, opDur := d, seq := .none, resOk := true, resA := 0, resB := 0, resWritten := true }

/-- Between exchanges the sequencer builds the request that R210 to R215 name and starts the exchange, with no transfer.
That both are ONE step, so that the step of the command in progress is the step of the request frame followed by the start
of EXCHANGE, is the model's inference and no rule: log entry 11 (DEDUCED). -/
def Obligations.DeviceOpsBuild : Prop :=
  ∀ (s : State) (a : Byte) (d : Half), s.hstate = .busy → s.opAddr = a → s.opDur = d → s.xph = .idle →
    (s.curOp = 2 → s.seq = .cmd → ∃ t, exec (.reqStart a) s = .next t ∧ exec (.turnOn a d) s = exec .exchange t) ∧
    (s.curOp = 3 → s.seq = .cmd → ∃ t, exec (.reqStop a) s = .next t ∧ exec (.turnOff a d) s = exec .exchange t) ∧
    (s.curOp = 4 → s.seq = .cmd → ∃ t, exec (.reqDispense a d) s = .next t ∧ exec (.dispense a d) s = exec .exchange t) ∧
    (s.curOp = 5 → s.seq = .cmd → ∃ t, exec (.reqCheck s.scanAddr) s = .next t ∧
      exec (.checkAll a d) s = exec .exchange t) ∧
    (s.curOp = 5 → s.seq = .fetch → ∃ t, exec (.reqResponse s.scanAddr) s = .next t ∧
      exec (.checkAll a d) s = exec .exchange t) ∧
    (s.curOp = 6 → s.seq = .cmd → ∃ t, exec (.reqGetState a) s = .next t ∧ exec (.getState a d) s = exec .exchange t) ∧
    (s.curOp = 6 → s.seq = .fetch → ∃ t, exec (.reqResponse a) s = .next t ∧ exec (.getState a d) s = exec .exchange t)

/-- TURNON, TURNOFF and DISPENSE complete in the step of the last transfer of their one exchange, success or not: the
result is (SUCCESS, 0, 0), the engine idle, the session untouched; a failed echo is the transmission error E1, reported
and not retried (R211 to R213, R251). -/
def Obligations.OneExchangeOpsComplete : Prop :=
  ∀ (s : State) (a : Byte) (d : Half) (rx : Byte) (i : Instr),
    s.hstate = .busy → s.opAddr = a → s.opDur = d → s.xph = .fill → s.rxn = 5 → s.sync = .accepting →
    linkReturns 0x00 s = some rx →
    ((s.curOp = 2 ∧ i = .turnOn a d) ∨ (s.curOp = 3 ∧ i = .turnOff a d) ∨ (s.curOp = 4 ∧ i = .dispense a d)) →
    ∃ t, exec i s = .next t ∧ t.success = verify s.params s.req { s.reply with payload1 := rx } ∧
      t.resOk = t.success ∧ t.resA = 0x00 ∧ t.resB = 0x00 ∧ t.hstate = .idle ∧ t.seq = .none ∧ t.xph = .idle ∧
      t.req = s.req ∧ t.reply = { s.reply with payload1 := rx } ∧ t.cmds = s.cmds ∧
      t.wire = s.wire ++ [.xfer 0x00 rx] ∧ sessionOf t = sessionOf s

/-- GETSTATE in the step of the last transfer of an exchange (R215): a failed exchange ends it with RES_OK = 0, RES_B = 0
and RES_A the next free value any8; after the command exchange the fetch is next; after the fetch it returns the status
byte, offset 4 of the reply. -/
def Obligations.GetStateReturns : Prop :=
  ∀ (s : State) (a : Byte) (d : Half) (rx : Byte),
    s.hstate = .busy → s.curOp = 6 → s.opAddr = a → s.opDur = d → s.xph = .fill → s.rxn = 5 → s.sync = .accepting →
    linkReturns 0x00 s = some rx →
    (verify s.params s.req { s.reply with payload1 := rx } = false →
      ∃ t, exec (.getState a d) s = .next t ∧ t.resOk = false ∧ t.resA = Config.any8 s.draws ∧ t.resB = 0x00 ∧
        t.hstate = .idle ∧ t.seq = .none ∧ t.xph = .idle ∧ sessionOf t = sessionOf s) ∧
    (verify s.params s.req { s.reply with payload1 := rx } = true → s.seq = .cmd →
      ∃ t, exec (.getState a d) s = .next t ∧ t.hstate = .busy ∧ t.seq = .fetch ∧ t.xph = .idle ∧
        t.resOk = s.resOk ∧ t.resA = s.resA ∧ t.resB = s.resB) ∧
    (verify s.params s.req { s.reply with payload1 := rx } = true → s.seq = .fetch →
      ∃ t, exec (.getState a d) s = .next t ∧ t.resOk = true ∧ t.resA = s.reply.payload0 ∧ t.resB = 0x00 ∧
        t.hstate = .idle ∧ t.seq = .none ∧ t.xph = .idle ∧ sessionOf t = sessionOf s)

/-- CHECKALL in the step of the last transfer of an exchange (R214): a failed exchange aborts the scan with RES_OK = 0 and
RES_A, RES_B the next two free values any8; after CHECK the status is fetched; a non-zero status is reported with its
address; at the last address a scan without a fault returns (1, 0, 0); else the next address is queried, and SCAN_ADDR
does not wrap. -/
def Obligations.ScanReturns : Prop :=
  ∀ (s : State) (count : Byte) (d : Half) (rx : Byte),
    s.hstate = .busy → s.curOp = 5 → s.opAddr = count → s.opDur = d → s.xph = .fill → s.rxn = 5 → s.sync = .accepting →
    linkReturns 0x00 s = some rx →
    (verify s.params s.req { s.reply with payload1 := rx } = false →
      ∃ t, exec (.checkAll count d) s = .next t ∧ t.resOk = false ∧ t.resA = Config.any8 s.draws ∧
        t.resB = Config.any8 (s.draws + 1) ∧ t.hstate = .idle ∧ t.seq = .none ∧
        t.scanAddr = s.scanAddr ∧ sessionOf t = sessionOf s) ∧
    (verify s.params s.req { s.reply with payload1 := rx } = true → s.seq = .cmd →
      ∃ t, exec (.checkAll count d) s = .next t ∧ t.hstate = .busy ∧ t.seq = .fetch ∧ t.xph = .idle ∧
        t.scanAddr = s.scanAddr) ∧
    (verify s.params s.req { s.reply with payload1 := rx } = true → s.seq = .fetch →
      ∃ t, exec (.checkAll count d) s = .next t ∧
        (if s.reply.payload0 ≠ 0x00 then
          t.resOk = true ∧ t.resA = s.scanAddr ∧ t.resB = s.reply.payload0 ∧ t.hstate = .idle ∧ t.seq = .none
        else if s.scanAddr = count then
          t.resOk = true ∧ t.resA = 0x00 ∧ t.resB = 0x00 ∧ t.hstate = .idle ∧ t.seq = .none
        else t.hstate = .busy ∧ t.seq = .cmd ∧ t.xph = .idle ∧ t.scanAddr = s.scanAddr + 1 ∧
          (s.scanAddr.toNat ≤ count.toNat → t.scanAddr.toNat = s.scanAddr.toNat + 1)))

/-- What the five device operations leave unchanged in every step (R219, R256): parameters, session, diagnostics, the
enumerator, the host's coming commands and the reset input; SCAN_ADDR but for CHECKALL; the results while the command goes
on; the link and SUCCESS in a step without a transfer; while the command is in progress its latches; and in a transfer REQ
and every byte of REPLY but the one at RXN. -/
def Obligations.DeviceOpsFrame : Prop :=
  ∀ (s t : State) (i : Instr) (a : Byte) (d : Half),
    (i = .turnOn a d ∨ i = .turnOff a d ∨ i = .dispense a d ∨ i = .checkAll a d ∨ i = .getState a d) →
    exec i s = .next t →
    sessionOf t = sessionOf s ∧ t.estate = s.estate ∧ t.erx = s.erx ∧ t.cmds = s.cmds ∧ t.rst = s.rst ∧ t.tail = s.tail ∧
    (i ≠ .checkAll a d → t.scanAddr = s.scanAddr) ∧
    (t.hstate = .busy → t.resOk = s.resOk ∧ t.resA = s.resA ∧ t.resB = s.resB ∧ t.resWritten = s.resWritten ∧
      t.draws = s.draws) ∧
    (s.hstate = .idle ∨ s.xph = .idle → t.script = s.script ∧ t.wire = s.wire ∧ t.success = s.success) ∧
    (s.hstate = .busy → t.curOp = s.curOp ∧ t.opAddr = s.opAddr ∧ t.opDur = s.opDur) ∧
    (s.hstate = .idle → t.req = s.req ∧ t.reply = s.reply ∧ t.trace = s.trace ∧ t.xph = s.xph) ∧
    (s.hstate = .busy → s.xph ≠ .idle → t.req = s.req ∧ ∀ k, k ≠ s.rxn.toNat → t.reply.get? k = s.reply.get? k)

/-- TURNON, TURNOFF and DISPENSE over a whole run: from the offered word the machine sends exactly the one request frame
and fillers, and ends the command with RES_OK saying whether the delivered frame verified (R211 to R213, R171). -/
def Obligations.OneExchangeCommandsRun : Prop :=
  ∀ (s : State) (w : Word32) (ws : List Word32) (a : Byte) (d : Half) (req : Frame) (v : Delivery) (rest : List Byte),
    s.rst = false → s.hstate = .idle → s.xph = .idle → s.cmds = w :: ws → v.clean → s.script = v.bytes ++ rest →
    ((decodeCommand w = .instr (.turnOn a d) ∧ req = placeholderFrame s.params .start a) ∨
      (decodeCommand w = .instr (.turnOff a d) ∧ req = placeholderFrame s.params .stop a) ∨
      (decodeCommand w = .instr (.dispense a d) ∧ req = dispenseFrame s.params a d)) →
    ∃ t, steps (1 + v.steps) s = .next t ∧ t.resOk = verify s.params req v.frame ∧ t.resA = 0x00 ∧ t.resB = 0x00 ∧
      t.hstate = .idle ∧ t.xph = .idle ∧ t.seq = .none ∧ t.cmds = ws ∧ t.script = rest ∧ t.req = req ∧
      t.reply = v.frame ∧ t.wire = s.wire ++ exchangeEvents req v.bytes ∧ sessionOf t = sessionOf s

/-- GETSTATE over a whole run (R215): when the command exchange fails the RESPONSE frame is not sent; else both frames
are sent and the result is the status byte, or RES_OK = 0. -/
def Obligations.GetStateRun : Prop :=
  ∀ (s : State) (w : Word32) (ws : List Word32) (a : Byte) (d : Half) (v1 v2 : Delivery) (rest : List Byte),
    s.rst = false → s.hstate = .idle → s.xph = .idle → s.cmds = w :: ws → decodeCommand w = .instr (.getState a d) →
    v1.clean → v2.clean → s.script = v1.bytes ++ (v2.bytes ++ rest) →
    (verify s.params (placeholderFrame s.params .getState a) v1.frame = false →
      ∃ t, steps (1 + v1.steps) s = .next t ∧ t.resOk = false ∧ t.resB = 0x00 ∧ t.hstate = .idle ∧
        t.script = v2.bytes ++ rest ∧ sessionOf t = sessionOf s ∧
        t.wire = s.wire ++ exchangeEvents (placeholderFrame s.params .getState a) v1.bytes) ∧
    (verify s.params (placeholderFrame s.params .getState a) v1.frame = true →
      ∃ t, steps (1 + v1.steps + v2.steps) s = .next t ∧ t.hstate = .idle ∧ t.seq = .none ∧ t.resB = 0x00 ∧
        t.resOk = verify s.params (placeholderFrame s.params .response a) v2.frame ∧
        (t.resOk = true → t.resA = v2.frame.payload0) ∧ t.script = rest ∧ t.cmds = ws ∧ sessionOf t = sessionOf s ∧
        t.wire = s.wire ++ exchangeEvents (placeholderFrame s.params .getState a) v1.bytes ++
          exchangeEvents (placeholderFrame s.params .response a) v2.bytes)

/-- CHECKALL over a whole run against a chain of slaves that echo CHECK and answer RESPONSE (R214, scenario S7): for
every `count` of 1 to 255 the scan ends with the first faulty address and its status, or (1, 0, 0), and sends exactly the
frames up to that address in ascending order. -/
def Obligations.ScanFindsFirstFault : Prop :=
  ∀ (s : State) (w : Word32) (ws : List Word32) (count : Byte) (d : Half) (vs : List SlaveTurn) (rest : List Byte),
    s.rst = false → s.hstate = .idle → s.xph = .idle → s.cmds = w :: ws → decodeCommand w = .instr (.checkAll count d) →
    1 ≤ count.toNat → vs.length = count.toNat → (∀ v ∈ vs, v.clean) → s.script = chainScript s.params 1 vs ++ rest →
    ∃ k t, steps k s = .next t ∧ t.hstate = .idle ∧ t.seq = .none ∧ t.xph = .idle ∧ t.cmds = ws ∧ t.resOk = true ∧
      (t.resA, t.resB) = firstFaulty 1 vs ∧ t.wire = s.wire ++ scanEvents s.params 1 vs ∧ sessionOf t = sessionOf s

/-- A scan is aborted at the first exchange that fails (R214, R303): when the healthy slaves before it all report 0 and
either the CHECK reply of the next address does not verify, or that reply verifies and its RESPONSE reply does not, the
command ends with RES_OK = 0 and nothing is sent after the failing exchange. -/
def Obligations.ScanAbortsOnFailure : Prop :=
  ∀ (s : State) (w : Word32) (ws : List Word32) (count : Byte) (d : Half) (vs : List SlaveTurn) (v : Delivery)
    (rest : List Byte),
    s.rst = false → s.hstate = .idle → s.xph = .idle → s.cmds = w :: ws → decodeCommand w = .instr (.checkAll count d) →
    vs.length < count.toNat → (∀ u ∈ vs, u.clean ∧ u.status = 0x00) → v.clean →
    (verify s.params (placeholderFrame s.params .check (BitVec.ofNat 8 (vs.length + 1))) v.frame = false →
      s.script = chainScript s.params 1 vs ++ (v.bytes ++ rest) →
      ∃ k t, steps k s = .next t ∧ t.hstate = .idle ∧ t.seq = .none ∧ t.cmds = ws ∧ t.resOk = false ∧ t.script = rest ∧
        t.wire = s.wire ++ scanEvents s.params 1 vs ++
          exchangeEvents (placeholderFrame s.params .check (BitVec.ofNat 8 (vs.length + 1))) v.bytes ∧
        sessionOf t = sessionOf s) ∧
    (∀ e : Delivery, e.clean →
      verify s.params (placeholderFrame s.params .check (BitVec.ofNat 8 (vs.length + 1))) e.frame = true →
      verify s.params (placeholderFrame s.params .response (BitVec.ofNat 8 (vs.length + 1))) v.frame = false →
      s.script = chainScript s.params 1 vs ++ (e.bytes ++ (v.bytes ++ rest)) →
      ∃ k t, steps k s = .next t ∧ t.hstate = .idle ∧ t.seq = .none ∧ t.cmds = ws ∧ t.resOk = false ∧ t.script = rest ∧
        t.wire = s.wire ++ scanEvents s.params 1 vs ++
          exchangeEvents (placeholderFrame s.params .check (BitVec.ofNat 8 (vs.length + 1))) e.bytes ++
          exchangeEvents (placeholderFrame s.params .response (BitVec.ofNat 8 (vs.length + 1))) v.bytes ∧
        sessionOf t = sessionOf s)

/-- The byte order of the duration changes no result when the link echoes what it was sent (R63): under either order the
DISPENSE run against its own echo, with any lead, succeeds. -/
def Obligations.DurationOrderIrrelevant : Prop :=
  ∀ (s : State) (w : Word32) (ws : List Word32) (a : Byte) (d : Half) (o : DurOrder) (first : Byte) (pad rest : List Byte),
    s.rst = false → s.hstate = .idle → s.xph = .idle → s.cmds = w :: ws → decodeCommand w = .instr (.dispense a d) →
    noSync pad → s.params.durOrder = o →
    s.script = (Delivery.mk first pad (dispenseFrame s.params a d)).bytes ++ rest →
    ∃ t, steps (pad.length + 9) s = .next t ∧ t.resOk = true ∧ t.resA = 0x00 ∧ t.resB = 0x00 ∧ t.hstate = .idle ∧
      t.reply = ⟨0xFF, 0xFF, a, s.params.typeCode .dispense, (durationPayload o d).1, (durationPayload o d).2⟩

/-! ## Housekeeping -/

/-- SETDEBUG stores its operand, whatever it is, makes no transfer, and returns (1, 0, 0) (R216). -/
def Obligations.SetDebugStores : Prop :=
  ∀ (s : State) (level : Byte) (d : Half), s.hstate = .idle →
    exec (.setDebug level d) s = .next { s with
      curOp := 7, opAddr := level, opDur := d, debugLevel := level
      resOk := true, resA := 0x00, resB := 0x00, resWritten := true }

/-- BUSRESET emits one bus-reset event, clears NUM_VALID, so that the host reads no slave count any more, and returns
(1, 0, 0); nothing else in the state changes, DEBUG_LEVEL and the control state included (R36, R217, R290, R292). That CUR_OP,
OP_ADDR and OP_DUR stay too, against the general acceptance of R103, is log entry 9 (DEDUCED). -/
def Obligations.BusResetClearsSession : Prop :=
  ∀ (s : State) (a : Byte) (d : Half), s.hstate = .idle →
    exec (.busReset a d) s = .next { s with
      numValid := false, wire := s.wire ++ [.busReset]
      resOk := true, resA := 0x00, resB := 0x00, resWritten := true }

/-- The host reads the slave count only while it is valid and the engine idle (R29), and the results only after a command
has ended (R31, U8): none while a command is in progress, none before the first command has ended, no count after BUSRESET,
and after the poll that ends ASSIGN the count it stored, the received byte minus one. That `resWritten` records whether a
command has ended is log entry 5, and that a busy engine shows no result is the model's choice, log entry 13. -/
def Obligations.HostReads : Prop :=
  (∀ s : State, s.hstate = .idle → s.numValid = true → hostSlaveCount s = some s.numDispensers) ∧
  (∀ s : State, s.numValid = false → hostSlaveCount s = none) ∧
  (∀ s : State, s.hstate = .busy → hostSlaveCount s = none ∧ hostResult s = none) ∧
  (∀ s : State, s.hstate = .idle → s.resWritten = true → hostResult s = some (s.resOk, s.resA, s.resB)) ∧
  (∀ s : State, s.resWritten = false → hostResult s = none) ∧
  (∀ (s t : State) (a : Byte) (d : Half), exec (.busReset a d) s = .next t →
    hostSlaveCount t = none ∧ hostResult t = some (true, 0x00, 0x00)) ∧
  (∀ (s : State) (rx : Byte), s.rst = false → s.hstate = .busy → s.curOp = 1 → s.estate = .poll →
    linkReturns 0x00 s = some rx → rx ≠ 0x00 → rx ≠ 0xFF →
    ∃ t, step s = .next t ∧ hostSlaveCount t = some (rx - 1) ∧ hostResult t = some (true, rx - 1, 0x00)) ∧
  hostSlaveCount State.reset = none ∧ hostResult State.reset = none

/-! ## The machine -/

/-- A step runs the decoded instruction: at an idle engine the command word the host offers, at a busy engine the command
in progress (R24, R103). That the words the host is going to offer are a list, that a step takes its head, and that the
command in progress is found by rebuilding its word from the latches, are the model's: log entry 3 (DESIGN CHOICE). -/
def Obligations.StepRunsDecodedWord : Prop :=
  (∀ (s : State) (w : Word32) (ws : List Word32) (i : Instr), s.rst = false → s.hstate = .idle → s.cmds = w :: ws →
    decodeCommand w = .instr i → step s = exec i { s with cmds := ws }) ∧
  (∀ (s : State) (i : Instr), s.rst = false → s.hstate = .busy →
    decodeCommand (commandWord (s.curOp.setWidth 8) s.opAddr s.opDur) = .instr i → step s = exec i s)

/-- An idle engine that is offered nothing does nothing (R39, R265). -/
def Obligations.IdleEngineWaits : Prop :=
  ∀ s : State, s.rst = false → s.hstate = .idle → s.cmds = [] → step s = .next s

/-- A reserved command code is never accepted (R103); the model refuses the run, as R103 says a model does. -/
def Obligations.ReservedCodeRefused : Prop :=
  ∀ (s : State) (w : Word32) (ws : List Word32), s.rst = false → s.hstate = .idle → s.cmds = w :: ws →
    8 ≤ (wordOp w).toNat → step s = .refused (.notAccepted (.reservedOp (wordOp w)))

/-- A command offered while another is in progress is refused (R103): another command, or the same one with other
operands. -/
def Obligations.BusyCommandRefused : Prop :=
  ∀ (s : State) (a : Byte) (d : Half), s.hstate = .busy →
    exec (.busReset a d) s = .refused .commandWhileBusy ∧ exec (.setDebug a d) s = .refused .commandWhileBusy ∧
    (s.curOp ≠ 1 → exec (.assign a d) s = .refused .commandWhileBusy) ∧
    (s.curOp ≠ 2 → exec (.turnOn a d) s = .refused .commandWhileBusy) ∧
    (s.curOp ≠ 3 → exec (.turnOff a d) s = .refused .commandWhileBusy) ∧
    (s.curOp ≠ 4 → exec (.dispense a d) s = .refused .commandWhileBusy) ∧
    (s.curOp ≠ 5 → exec (.checkAll a d) s = .refused .commandWhileBusy) ∧
    (s.curOp ≠ 6 → exec (.getState a d) s = .refused .commandWhileBusy) ∧
    (s.opAddr ≠ a ∨ s.opDur ≠ d →
      exec (.assign a d) s = .refused .commandWhileBusy ∧ exec (.turnOn a d) s = .refused .commandWhileBusy ∧
      exec (.turnOff a d) s = .refused .commandWhileBusy ∧ exec (.dispense a d) s = .refused .commandWhileBusy ∧
      exec (.checkAll a d) s = .refused .commandWhileBusy ∧ exec (.getState a d) s = .refused .commandWhileBusy)

/-- What reset leaves that R36 gives: idle control state, NUM_VALID 0, DEBUG_LEVEL 0. -/
def Obligations.ResetState : Prop :=
  State.reset.hstate = .idle ∧ State.reset.seq = .none ∧ State.reset.xph = .idle ∧ State.reset.estate = .idle ∧
    State.reset.numValid = false ∧ State.reset.debugLevel = 0x00

/-- Engine reset, from any state, an endless exchange or enumeration included: idle control state, NUM_VALID 0,
DEBUG_LEVEL 0, no transfer and no bus-reset event (R36, R290). That `rst` is cleared after one step, and that the host's
words, the script, the parameters and the trace are kept, is the model's choice: log entry 8 (DESIGN CHOICE). That the host
reads no result then is R36 through `resWritten`, log entry 5. -/
def Obligations.EngineResetStep : Prop :=
  ∀ s : State, s.rst = true → ∃ t, step s = .next t ∧ t.hstate = .idle ∧ t.seq = .none ∧ t.xph = .idle ∧
    t.estate = .idle ∧ t.numValid = false ∧ t.debugLevel = 0x00 ∧ t.rst = false ∧ t.wire = s.wire ∧ t.trace = s.trace ∧
    t.script = s.script ∧ t.cmds = s.cmds ∧ t.params = s.params ∧ hostResult t = none

/-- The control-state invariant holds after reset (R36: an idle control state, no valid count). Its clause that SYNC is
Accepting exactly when RXN > 0 holds there by the model's choice alone: R36 gives SYNC and RXN no value after reset, and the
model gives them Seeking and 0 (log entry 1, DESIGN CHOICE, unsafe). -/
def Obligations.ResetControlInv : Prop := ControlInv State.reset

/-- The control-state invariants R24, R25 to R27, R29, R32, R73 and R75 state are kept by every step from every state
that has them. -/
def Obligations.StepKeepsControlInv : Prop :=
  ∀ s t : State, ControlInv s → step s = .next t → ControlInv t

/-- With the invariant a step goes on, or waits for a link that does not answer the transfer it owes, or refuses a
reserved code; it never forms an offset outside the buffers, and no control state is without a rule (R60, R166, R198). -/
def Obligations.StepStopsOnlyAsStated : Prop :=
  ∀ s : State, ControlInv s →
    (∃ t, step s = .next t) ∨
    (step s = .fault .linkStalled ∧ s.hstate = .busy ∧ s.script = [] ∧ (s.xph ≠ .idle ∨ s.estate ≠ .idle)) ∨
    (s.hstate = .idle ∧ ∃ op : Byte, 8 ≤ op.toNat ∧ step s = .refused (.notAccepted (.reservedOp op)))

/-- In control states no run reaches, for which the spec has no rule, the machine stops by name: an offset above 5 does not
exist (R60), and a busy command without a request or an enumeration state has no enabled step (R223). The spec gives no
stop there: the faults and their names are the model's choice, log entry 10 (DESIGN CHOICE). -/
def Obligations.UnreachableControlStops : Prop :=
  ∀ s : State,
    (s.xph = .req → 6 ≤ s.txi.toNat → exec .exchange s = .fault .noSuchOffset) ∧
    (∀ rx, s.xph = .fill → 6 ≤ s.rxn.toNat → s.sync = .accepting → linkReturns 0x00 s = some rx →
      exec .exchange s = .fault .noSuchOffset) ∧
    (∀ a d, s.hstate = .busy → s.curOp = 1 → s.opAddr = a → s.opDur = d → s.estate = .idle →
      exec (.assign a d) s = .fault .noEnabledStep) ∧
    (∀ a d, s.hstate = .busy → s.opAddr = a → s.opDur = d → s.xph = .idle → s.seq = .none →
      (s.curOp = 2 → exec (.turnOn a d) s = .fault .noEnabledStep) ∧
      (s.curOp = 3 → exec (.turnOff a d) s = .fault .noEnabledStep) ∧
      (s.curOp = 4 → exec (.dispense a d) s = .fault .noEnabledStep) ∧
      (s.curOp = 5 → exec (.checkAll a d) s = .fault .noEnabledStep) ∧
      (s.curOp = 6 → exec (.getState a d) s = .fault .noEnabledStep))

/-- A transfer the link never completes leaves the engine stuck, in an exchange and in an enumeration (R66 e, R168 a,
R197); and so does the whole machine's step. -/
def Obligations.StalledLinkSticks : Prop :=
  ∀ s : State,
    (∀ tx, s.xph ≠ .idle → byteToSend s = some tx → linkReturns tx s = none →
      exec .exchange s = .fault .linkStalled) ∧
    (∀ a d, s.hstate = .busy → s.curOp = 1 → s.opAddr = a → s.opDur = d →
      ((s.estate = .primer ∧ linkReturns s.params.primer s = none) ∨ (s.estate = .poll ∧ linkReturns 0x00 s = none)) →
      exec (.assign a d) s = .fault .linkStalled) ∧
    (ControlInv s → s.rst = false → s.hstate = .busy → (s.xph ≠ .idle ∨ s.estate ≠ .idle) → s.script = [] →
      s.tail = .stalled → step s = .fault .linkStalled)

/-- An exchange that does not receive 0xFF at its second transfer or later does not end (R168 b, X19, P5): from any point of
an exchange that is still Seeking, after any number of transfers none of whose bytes, but for that of the exchange's first
transfer, is 0xFF, the engine is busy and Seeking as before, has written neither REPLY nor a result, and has sent the rest
of the request and then 0x00; and on a line held at one other byte that is so after every number of steps. -/
def Obligations.SeekingHangs : Prop :=
  (∀ (s : State) (rxs rest : List Byte), ControlInv s → s.rst = false → s.xph ≠ .idle → s.sync = .seeking →
    s.script = rxs ++ rest → noSync (if s.xph = .req ∧ s.txi = 0 then rxs.tail else rxs) →
    ∃ t, steps rxs.length s = .next t ∧ t.hstate = .busy ∧ t.xph ≠ .idle ∧ t.rxn = 0 ∧ t.sync = .seeking ∧
      (6 ≤ s.txi.toNat + rxs.length → t.xph = .fill ∧ t.txi = 6) ∧
      t.reply = s.reply ∧ t.success = s.success ∧ t.resOk = s.resOk ∧ t.resA = s.resA ∧ t.resB = s.resB ∧
      t.script = rest ∧
      t.wire = s.wire ++ List.zipWith .xfer ((s.req.bytes ++ List.replicate rxs.length 0x00).drop s.txi.toNat) rxs) ∧
  (∀ (s : State) (b : Byte), ControlInv s → s.rst = false → s.xph = .fill → s.sync = .seeking → s.script = [] →
    s.tail = .repeats b → b ≠ 0xFF →
    ∀ k, ∃ t, steps k s = .next t ∧ t.hstate = .busy ∧ t.xph = .fill ∧ t.txi = 6 ∧ t.rxn = 0 ∧ t.sync = .seeking ∧
      t.resOk = s.resOk ∧ t.wire = s.wire ++ List.replicate k (.xfer 0x00 b))

/-- An enumeration that does not receive a sentinel does not end (R197, E9): from the primer, or from any poll, after any
number of polls answered 0x00 or 0xFF in any mixture the engine is busy and polling, has stored no count and written no
result; and on a line held at one of the two bytes that is so after every number of steps. -/
def Obligations.PollingHangs : Prop :=
  (∀ (s : State) (first : Byte) (waits rest : List Byte), s.rst = false → s.hstate = .busy → s.curOp = 1 →
    s.estate = .primer → s.script = first :: (waits ++ rest) → allNotYet waits →
    ∃ t, steps (waits.length + 1) s = .next t ∧ t.hstate = .busy ∧ t.curOp = 1 ∧ t.estate = .poll ∧
      t.numDispensers = s.numDispensers ∧ t.numValid = s.numValid ∧ t.resOk = s.resOk ∧ t.resA = s.resA ∧
      t.resB = s.resB ∧ t.script = rest ∧ t.wire = s.wire ++ assignEvents s.params.primer first waits) ∧
  (∀ (s : State) (waits rest : List Byte), s.rst = false → s.hstate = .busy → s.curOp = 1 → s.estate = .poll →
    s.script = waits ++ rest → allNotYet waits →
    ∃ t, steps waits.length s = .next t ∧ t.hstate = .busy ∧ t.curOp = 1 ∧ t.estate = .poll ∧
      t.numDispensers = s.numDispensers ∧ t.numValid = s.numValid ∧ t.resOk = s.resOk ∧ t.resA = s.resA ∧
      t.resB = s.resB ∧ t.script = rest ∧ t.wire = s.wire ++ waits.map (.xfer 0x00)) ∧
  (∀ (s : State) (b : Byte), s.rst = false → s.hstate = .busy → s.curOp = 1 → s.estate = .poll → s.script = [] →
    s.tail = .repeats b → (b = 0x00 ∨ b = 0xFF) →
    ∀ k, ∃ t, steps k s = .next t ∧ t.hstate = .busy ∧ t.estate = .poll ∧ t.numDispensers = s.numDispensers ∧
      t.numValid = s.numValid ∧ t.wire = s.wire ++ List.replicate k (.xfer 0x00 b))

/-- DEBUG_LEVEL is observational only (R30): two states that differ only in DEBUG_LEVEL and the trace take steps that
differ only in them. -/
def Obligations.DebugLevelObservational : Prop :=
  ∀ s s' : State, s.untraced = s'.untraced → untracedResult (step s) = untracedResult (step s')

/-- No step writes the parameters (R6, R34). -/
def Obligations.ParametersConstant : Prop :=
  ∀ s t : State, step s = .next t → t.params = s.params

/-- Who writes the session and DEBUG_LEVEL (R29, R30, R219). Of the instructions, only ASSIGN writes the slave count, only
ASSIGN and BUSRESET its validity, only SETDEBUG the debug level. Of the machine's steps without engine reset, the slave
count changes only in one that ends ASSIGN, its validity only in that one or in one that takes BUSRESET, and the debug level
only in one that takes SETDEBUG, to its operand. The engine-reset step writes all three (R36, R290); that it leaves the slave
count zero is log entry 1 (DESIGN CHOICE). -/
def Obligations.SessionWriters : Prop :=
  (∀ (s t : State) (i : Instr), exec i s = .next t →
    ((∀ a d, i ≠ .assign a d) → t.numDispensers = s.numDispensers) ∧
    ((∀ a d, i ≠ .assign a d) → (∀ a d, i ≠ .busReset a d) → t.numValid = s.numValid) ∧
    ((∀ level d, i ≠ .setDebug level d) → t.debugLevel = s.debugLevel)) ∧
  (∀ s t : State, step s = .next t → s.rst = false →
    (t.numDispensers ≠ s.numDispensers →
      s.hstate = .busy ∧ s.curOp = 1 ∧ s.estate = .poll ∧ t.hstate = .idle ∧ t.numValid = true) ∧
    (t.numValid ≠ s.numValid →
      (s.hstate = .busy ∧ s.curOp = 1 ∧ s.estate = .poll ∧ t.hstate = .idle ∧ t.numValid = true) ∨
      (s.hstate = .idle ∧ t.numValid = false ∧
        ∃ w ws a d, s.cmds = w :: ws ∧ decodeCommand w = .instr (.busReset a d))) ∧
    (t.debugLevel ≠ s.debugLevel →
      s.hstate = .idle ∧ ∃ w ws d, s.cmds = w :: ws ∧ decodeCommand w = .instr (.setDebug t.debugLevel d))) ∧
  (∀ s t : State, step s = .next t → s.rst = true →
    t.numDispensers = 0x00 ∧ t.numValid = false ∧ t.debugLevel = 0x00)

/-- The wire only grows: no step takes back a transfer, and a step adds at most one event (R66, R70). -/
def Obligations.WireGrowsByOne : Prop :=
  ∀ s t : State, step s = .next t → ∃ evs : List WireEvent, t.wire = s.wire ++ evs ∧ evs.length ≤ 1
end

