-- ==== Sys2Proof/Laws/State.lean ====
section
/-!
SUPPORT. What each named update of State does to each field: one lemma per field per update, so that no proof unfolds a
record update. An update that branches has lemmas for the fields neither branch writes.
-/

namespace Sys2Proof.Machine

/-! ### recordXfer -/
@[simp] theorem recordXfer_params (tx rx : Byte) (s : State) : (recordXfer tx rx s).params = s.params := rfl
@[simp] theorem recordXfer_req (tx rx : Byte) (s : State) : (recordXfer tx rx s).req = s.req := rfl
@[simp] theorem recordXfer_reply (tx rx : Byte) (s : State) : (recordXfer tx rx s).reply = s.reply := rfl
@[simp] theorem recordXfer_opAddr (tx rx : Byte) (s : State) : (recordXfer tx rx s).opAddr = s.opAddr := rfl
@[simp] theorem recordXfer_opDur (tx rx : Byte) (s : State) : (recordXfer tx rx s).opDur = s.opDur := rfl
@[simp] theorem recordXfer_hstate (tx rx : Byte) (s : State) : (recordXfer tx rx s).hstate = s.hstate := rfl
@[simp] theorem recordXfer_curOp (tx rx : Byte) (s : State) : (recordXfer tx rx s).curOp = s.curOp := rfl
@[simp] theorem recordXfer_seq (tx rx : Byte) (s : State) : (recordXfer tx rx s).seq = s.seq := rfl
@[simp] theorem recordXfer_scanAddr (tx rx : Byte) (s : State) : (recordXfer tx rx s).scanAddr = s.scanAddr := rfl
@[simp] theorem recordXfer_xph (tx rx : Byte) (s : State) : (recordXfer tx rx s).xph = s.xph := rfl
@[simp] theorem recordXfer_txi (tx rx : Byte) (s : State) : (recordXfer tx rx s).txi = s.txi := rfl
@[simp] theorem recordXfer_rxn (tx rx : Byte) (s : State) : (recordXfer tx rx s).rxn = s.rxn := rfl
@[simp] theorem recordXfer_sync (tx rx : Byte) (s : State) : (recordXfer tx rx s).sync = s.sync := rfl
@[simp] theorem recordXfer_estate (tx rx : Byte) (s : State) : (recordXfer tx rx s).estate = s.estate := rfl
@[simp] theorem recordXfer_erx (tx rx : Byte) (s : State) : (recordXfer tx rx s).erx = s.erx := rfl
@[simp] theorem recordXfer_success (tx rx : Byte) (s : State) : (recordXfer tx rx s).success = s.success := rfl
@[simp] theorem recordXfer_numDispensers (tx rx : Byte) (s : State) : (recordXfer tx rx s).numDispensers = s.numDispensers := rfl
@[simp] theorem recordXfer_numValid (tx rx : Byte) (s : State) : (recordXfer tx rx s).numValid = s.numValid := rfl
@[simp] theorem recordXfer_debugLevel (tx rx : Byte) (s : State) : (recordXfer tx rx s).debugLevel = s.debugLevel := rfl
@[simp] theorem recordXfer_resOk (tx rx : Byte) (s : State) : (recordXfer tx rx s).resOk = s.resOk := rfl
@[simp] theorem recordXfer_resA (tx rx : Byte) (s : State) : (recordXfer tx rx s).resA = s.resA := rfl
@[simp] theorem recordXfer_resB (tx rx : Byte) (s : State) : (recordXfer tx rx s).resB = s.resB := rfl
@[simp] theorem recordXfer_resWritten (tx rx : Byte) (s : State) : (recordXfer tx rx s).resWritten = s.resWritten := rfl
@[simp] theorem recordXfer_cmds (tx rx : Byte) (s : State) : (recordXfer tx rx s).cmds = s.cmds := rfl
@[simp] theorem recordXfer_rst (tx rx : Byte) (s : State) : (recordXfer tx rx s).rst = s.rst := rfl
@[simp] theorem recordXfer_script (tx rx : Byte) (s : State) : (recordXfer tx rx s).script = s.script.tail := rfl
@[simp] theorem recordXfer_tail (tx rx : Byte) (s : State) : (recordXfer tx rx s).tail = s.tail := rfl
@[simp] theorem recordXfer_wire (tx rx : Byte) (s : State) : (recordXfer tx rx s).wire = s.wire ++ [.xfer tx rx] := rfl
@[simp] theorem recordXfer_trace (tx rx : Byte) (s : State) : (recordXfer tx rx s).trace = s.trace := rfl
@[simp] theorem recordXfer_draws (tx rx : Byte) (s : State) : (recordXfer tx rx s).draws = s.draws := rfl
@[simp] theorem recordXfer_traceDraws (tx rx : Byte) (s : State) : (recordXfer tx rx s).traceDraws = s.traceDraws := rfl

/-! ### accept -/
@[simp] theorem accept_params (op : BitVec 3) (a : Byte) (d : Half) (s : State) : (accept op a d s).params = s.params := rfl
@[simp] theorem accept_req (op : BitVec 3) (a : Byte) (d : Half) (s : State) : (accept op a d s).req = s.req := rfl
@[simp] theorem accept_reply (op : BitVec 3) (a : Byte) (d : Half) (s : State) : (accept op a d s).reply = s.reply := rfl
@[simp] theorem accept_opAddr (op : BitVec 3) (a : Byte) (d : Half) (s : State) : (accept op a d s).opAddr = a := rfl
@[simp] theorem accept_opDur (op : BitVec 3) (a : Byte) (d : Half) (s : State) : (accept op a d s).opDur = d := rfl
@[simp] theorem accept_hstate (op : BitVec 3) (a : Byte) (d : Half) (s : State) : (accept op a d s).hstate = .busy := rfl
@[simp] theorem accept_curOp (op : BitVec 3) (a : Byte) (d : Half) (s : State) : (accept op a d s).curOp = op := rfl
@[simp] theorem accept_seq (op : BitVec 3) (a : Byte) (d : Half) (s : State) : (accept op a d s).seq = s.seq := rfl
@[simp] theorem accept_scanAddr (op : BitVec 3) (a : Byte) (d : Half) (s : State) : (accept op a d s).scanAddr = s.scanAddr := rfl
@[simp] theorem accept_xph (op : BitVec 3) (a : Byte) (d : Half) (s : State) : (accept op a d s).xph = s.xph := rfl
@[simp] theorem accept_txi (op : BitVec 3) (a : Byte) (d : Half) (s : State) : (accept op a d s).txi = s.txi := rfl
@[simp] theorem accept_rxn (op : BitVec 3) (a : Byte) (d : Half) (s : State) : (accept op a d s).rxn = s.rxn := rfl
@[simp] theorem accept_sync (op : BitVec 3) (a : Byte) (d : Half) (s : State) : (accept op a d s).sync = s.sync := rfl
@[simp] theorem accept_estate (op : BitVec 3) (a : Byte) (d : Half) (s : State) : (accept op a d s).estate = s.estate := rfl
@[simp] theorem accept_erx (op : BitVec 3) (a : Byte) (d : Half) (s : State) : (accept op a d s).erx = s.erx := rfl
@[simp] theorem accept_success (op : BitVec 3) (a : Byte) (d : Half) (s : State) : (accept op a d s).success = s.success := rfl
@[simp] theorem accept_numDispensers (op : BitVec 3) (a : Byte) (d : Half) (s : State) : (accept op a d s).numDispensers = s.numDispensers := rfl
@[simp] theorem accept_numValid (op : BitVec 3) (a : Byte) (d : Half) (s : State) : (accept op a d s).numValid = s.numValid := rfl
@[simp] theorem accept_debugLevel (op : BitVec 3) (a : Byte) (d : Half) (s : State) : (accept op a d s).debugLevel = s.debugLevel := rfl
@[simp] theorem accept_resOk (op : BitVec 3) (a : Byte) (d : Half) (s : State) : (accept op a d s).resOk = s.resOk := rfl
@[simp] theorem accept_resA (op : BitVec 3) (a : Byte) (d : Half) (s : State) : (accept op a d s).resA = s.resA := rfl
@[simp] theorem accept_resB (op : BitVec 3) (a : Byte) (d : Half) (s : State) : (accept op a d s).resB = s.resB := rfl
@[simp] theorem accept_resWritten (op : BitVec 3) (a : Byte) (d : Half) (s : State) : (accept op a d s).resWritten = s.resWritten := rfl
@[simp] theorem accept_cmds (op : BitVec 3) (a : Byte) (d : Half) (s : State) : (accept op a d s).cmds = s.cmds := rfl
@[simp] theorem accept_rst (op : BitVec 3) (a : Byte) (d : Half) (s : State) : (accept op a d s).rst = s.rst := rfl
@[simp] theorem accept_script (op : BitVec 3) (a : Byte) (d : Half) (s : State) : (accept op a d s).script = s.script := rfl
@[simp] theorem accept_tail (op : BitVec 3) (a : Byte) (d : Half) (s : State) : (accept op a d s).tail = s.tail := rfl
@[simp] theorem accept_wire (op : BitVec 3) (a : Byte) (d : Half) (s : State) : (accept op a d s).wire = s.wire := rfl
@[simp] theorem accept_trace (op : BitVec 3) (a : Byte) (d : Half) (s : State) : (accept op a d s).trace = s.trace := rfl
@[simp] theorem accept_draws (op : BitVec 3) (a : Byte) (d : Half) (s : State) : (accept op a d s).draws = s.draws := rfl
@[simp] theorem accept_traceDraws (op : BitVec 3) (a : Byte) (d : Half) (s : State) : (accept op a d s).traceDraws = s.traceDraws := rfl

/-! ### endCommand -/
@[simp] theorem endCommand_params (ok : Bool) (a b : Byte) (s : State) : (endCommand ok a b s).params = s.params := rfl
@[simp] theorem endCommand_req (ok : Bool) (a b : Byte) (s : State) : (endCommand ok a b s).req = s.req := rfl
@[simp] theorem endCommand_reply (ok : Bool) (a b : Byte) (s : State) : (endCommand ok a b s).reply = s.reply := rfl
@[simp] theorem endCommand_opAddr (ok : Bool) (a b : Byte) (s : State) : (endCommand ok a b s).opAddr = s.opAddr := rfl
@[simp] theorem endCommand_opDur (ok : Bool) (a b : Byte) (s : State) : (endCommand ok a b s).opDur = s.opDur := rfl
@[simp] theorem endCommand_hstate (ok : Bool) (a b : Byte) (s : State) : (endCommand ok a b s).hstate = .idle := rfl
@[simp] theorem endCommand_curOp (ok : Bool) (a b : Byte) (s : State) : (endCommand ok a b s).curOp = s.curOp := rfl
@[simp] theorem endCommand_seq (ok : Bool) (a b : Byte) (s : State) : (endCommand ok a b s).seq = s.seq := rfl
@[simp] theorem endCommand_scanAddr (ok : Bool) (a b : Byte) (s : State) : (endCommand ok a b s).scanAddr = s.scanAddr := rfl
@[simp] theorem endCommand_xph (ok : Bool) (a b : Byte) (s : State) : (endCommand ok a b s).xph = s.xph := rfl
@[simp] theorem endCommand_txi (ok : Bool) (a b : Byte) (s : State) : (endCommand ok a b s).txi = s.txi := rfl
@[simp] theorem endCommand_rxn (ok : Bool) (a b : Byte) (s : State) : (endCommand ok a b s).rxn = s.rxn := rfl
@[simp] theorem endCommand_sync (ok : Bool) (a b : Byte) (s : State) : (endCommand ok a b s).sync = s.sync := rfl
@[simp] theorem endCommand_estate (ok : Bool) (a b : Byte) (s : State) : (endCommand ok a b s).estate = s.estate := rfl
@[simp] theorem endCommand_erx (ok : Bool) (a b : Byte) (s : State) : (endCommand ok a b s).erx = s.erx := rfl
@[simp] theorem endCommand_success (ok : Bool) (a b : Byte) (s : State) : (endCommand ok a b s).success = s.success := rfl
@[simp] theorem endCommand_numDispensers (ok : Bool) (a b : Byte) (s : State) : (endCommand ok a b s).numDispensers = s.numDispensers := rfl
@[simp] theorem endCommand_numValid (ok : Bool) (a b : Byte) (s : State) : (endCommand ok a b s).numValid = s.numValid := rfl
@[simp] theorem endCommand_debugLevel (ok : Bool) (a b : Byte) (s : State) : (endCommand ok a b s).debugLevel = s.debugLevel := rfl
@[simp] theorem endCommand_resOk (ok : Bool) (a b : Byte) (s : State) : (endCommand ok a b s).resOk = ok := rfl
@[simp] theorem endCommand_resA (ok : Bool) (a b : Byte) (s : State) : (endCommand ok a b s).resA = a := rfl
@[simp] theorem endCommand_resB (ok : Bool) (a b : Byte) (s : State) : (endCommand ok a b s).resB = b := rfl
@[simp] theorem endCommand_resWritten (ok : Bool) (a b : Byte) (s : State) : (endCommand ok a b s).resWritten = true := rfl
@[simp] theorem endCommand_cmds (ok : Bool) (a b : Byte) (s : State) : (endCommand ok a b s).cmds = s.cmds := rfl
@[simp] theorem endCommand_rst (ok : Bool) (a b : Byte) (s : State) : (endCommand ok a b s).rst = s.rst := rfl
@[simp] theorem endCommand_script (ok : Bool) (a b : Byte) (s : State) : (endCommand ok a b s).script = s.script := rfl
@[simp] theorem endCommand_tail (ok : Bool) (a b : Byte) (s : State) : (endCommand ok a b s).tail = s.tail := rfl
@[simp] theorem endCommand_wire (ok : Bool) (a b : Byte) (s : State) : (endCommand ok a b s).wire = s.wire := rfl
@[simp] theorem endCommand_trace (ok : Bool) (a b : Byte) (s : State) : (endCommand ok a b s).trace = s.trace := rfl
@[simp] theorem endCommand_draws (ok : Bool) (a b : Byte) (s : State) : (endCommand ok a b s).draws = s.draws := rfl
@[simp] theorem endCommand_traceDraws (ok : Bool) (a b : Byte) (s : State) : (endCommand ok a b s).traceDraws = s.traceDraws := rfl

/-! ### endDeviceOp -/
@[simp] theorem endDeviceOp_params (ok : Bool) (a b : Byte) (s : State) : (endDeviceOp ok a b s).params = s.params := rfl
@[simp] theorem endDeviceOp_req (ok : Bool) (a b : Byte) (s : State) : (endDeviceOp ok a b s).req = s.req := rfl
@[simp] theorem endDeviceOp_reply (ok : Bool) (a b : Byte) (s : State) : (endDeviceOp ok a b s).reply = s.reply := rfl
@[simp] theorem endDeviceOp_opAddr (ok : Bool) (a b : Byte) (s : State) : (endDeviceOp ok a b s).opAddr = s.opAddr := rfl
@[simp] theorem endDeviceOp_opDur (ok : Bool) (a b : Byte) (s : State) : (endDeviceOp ok a b s).opDur = s.opDur := rfl
@[simp] theorem endDeviceOp_hstate (ok : Bool) (a b : Byte) (s : State) : (endDeviceOp ok a b s).hstate = .idle := rfl
@[simp] theorem endDeviceOp_curOp (ok : Bool) (a b : Byte) (s : State) : (endDeviceOp ok a b s).curOp = s.curOp := rfl
@[simp] theorem endDeviceOp_seq (ok : Bool) (a b : Byte) (s : State) : (endDeviceOp ok a b s).seq = .none := rfl
@[simp] theorem endDeviceOp_scanAddr (ok : Bool) (a b : Byte) (s : State) : (endDeviceOp ok a b s).scanAddr = s.scanAddr := rfl
@[simp] theorem endDeviceOp_xph (ok : Bool) (a b : Byte) (s : State) : (endDeviceOp ok a b s).xph = s.xph := rfl
@[simp] theorem endDeviceOp_txi (ok : Bool) (a b : Byte) (s : State) : (endDeviceOp ok a b s).txi = s.txi := rfl
@[simp] theorem endDeviceOp_rxn (ok : Bool) (a b : Byte) (s : State) : (endDeviceOp ok a b s).rxn = s.rxn := rfl
@[simp] theorem endDeviceOp_sync (ok : Bool) (a b : Byte) (s : State) : (endDeviceOp ok a b s).sync = s.sync := rfl
@[simp] theorem endDeviceOp_estate (ok : Bool) (a b : Byte) (s : State) : (endDeviceOp ok a b s).estate = s.estate := rfl
@[simp] theorem endDeviceOp_erx (ok : Bool) (a b : Byte) (s : State) : (endDeviceOp ok a b s).erx = s.erx := rfl
@[simp] theorem endDeviceOp_success (ok : Bool) (a b : Byte) (s : State) : (endDeviceOp ok a b s).success = s.success := rfl
@[simp] theorem endDeviceOp_numDispensers (ok : Bool) (a b : Byte) (s : State) : (endDeviceOp ok a b s).numDispensers = s.numDispensers := rfl
@[simp] theorem endDeviceOp_numValid (ok : Bool) (a b : Byte) (s : State) : (endDeviceOp ok a b s).numValid = s.numValid := rfl
@[simp] theorem endDeviceOp_debugLevel (ok : Bool) (a b : Byte) (s : State) : (endDeviceOp ok a b s).debugLevel = s.debugLevel := rfl
@[simp] theorem endDeviceOp_resOk (ok : Bool) (a b : Byte) (s : State) : (endDeviceOp ok a b s).resOk = ok := rfl
@[simp] theorem endDeviceOp_resA (ok : Bool) (a b : Byte) (s : State) : (endDeviceOp ok a b s).resA = a := rfl
@[simp] theorem endDeviceOp_resB (ok : Bool) (a b : Byte) (s : State) : (endDeviceOp ok a b s).resB = b := rfl
@[simp] theorem endDeviceOp_resWritten (ok : Bool) (a b : Byte) (s : State) : (endDeviceOp ok a b s).resWritten = true := rfl
@[simp] theorem endDeviceOp_cmds (ok : Bool) (a b : Byte) (s : State) : (endDeviceOp ok a b s).cmds = s.cmds := rfl
@[simp] theorem endDeviceOp_rst (ok : Bool) (a b : Byte) (s : State) : (endDeviceOp ok a b s).rst = s.rst := rfl
@[simp] theorem endDeviceOp_script (ok : Bool) (a b : Byte) (s : State) : (endDeviceOp ok a b s).script = s.script := rfl
@[simp] theorem endDeviceOp_tail (ok : Bool) (a b : Byte) (s : State) : (endDeviceOp ok a b s).tail = s.tail := rfl
@[simp] theorem endDeviceOp_wire (ok : Bool) (a b : Byte) (s : State) : (endDeviceOp ok a b s).wire = s.wire := rfl
@[simp] theorem endDeviceOp_trace (ok : Bool) (a b : Byte) (s : State) : (endDeviceOp ok a b s).trace = s.trace := rfl
@[simp] theorem endDeviceOp_draws (ok : Bool) (a b : Byte) (s : State) : (endDeviceOp ok a b s).draws = s.draws := rfl
@[simp] theorem endDeviceOp_traceDraws (ok : Bool) (a b : Byte) (s : State) : (endDeviceOp ok a b s).traceDraws = s.traceDraws := rfl

/-! ### takeTransmissionError -/
@[simp] theorem takeTransmissionError_params (oa ob : Bool) (s : State) : (takeTransmissionError oa ob s).params = s.params := rfl
@[simp] theorem takeTransmissionError_req (oa ob : Bool) (s : State) : (takeTransmissionError oa ob s).req = s.req := rfl
@[simp] theorem takeTransmissionError_reply (oa ob : Bool) (s : State) : (takeTransmissionError oa ob s).reply = s.reply := rfl
@[simp] theorem takeTransmissionError_opAddr (oa ob : Bool) (s : State) : (takeTransmissionError oa ob s).opAddr = s.opAddr := rfl
@[simp] theorem takeTransmissionError_opDur (oa ob : Bool) (s : State) : (takeTransmissionError oa ob s).opDur = s.opDur := rfl
@[simp] theorem takeTransmissionError_hstate (oa ob : Bool) (s : State) : (takeTransmissionError oa ob s).hstate = .idle := rfl
@[simp] theorem takeTransmissionError_curOp (oa ob : Bool) (s : State) : (takeTransmissionError oa ob s).curOp = s.curOp := rfl
@[simp] theorem takeTransmissionError_seq (oa ob : Bool) (s : State) : (takeTransmissionError oa ob s).seq = .none := rfl
@[simp] theorem takeTransmissionError_scanAddr (oa ob : Bool) (s : State) : (takeTransmissionError oa ob s).scanAddr = s.scanAddr := rfl
@[simp] theorem takeTransmissionError_xph (oa ob : Bool) (s : State) : (takeTransmissionError oa ob s).xph = s.xph := rfl
@[simp] theorem takeTransmissionError_txi (oa ob : Bool) (s : State) : (takeTransmissionError oa ob s).txi = s.txi := rfl
@[simp] theorem takeTransmissionError_rxn (oa ob : Bool) (s : State) : (takeTransmissionError oa ob s).rxn = s.rxn := rfl
@[simp] theorem takeTransmissionError_sync (oa ob : Bool) (s : State) : (takeTransmissionError oa ob s).sync = s.sync := rfl
@[simp] theorem takeTransmissionError_estate (oa ob : Bool) (s : State) : (takeTransmissionError oa ob s).estate = s.estate := rfl
@[simp] theorem takeTransmissionError_erx (oa ob : Bool) (s : State) : (takeTransmissionError oa ob s).erx = s.erx := rfl
@[simp] theorem takeTransmissionError_success (oa ob : Bool) (s : State) : (takeTransmissionError oa ob s).success = s.success := rfl
@[simp] theorem takeTransmissionError_numDispensers (oa ob : Bool) (s : State) : (takeTransmissionError oa ob s).numDispensers = s.numDispensers := rfl
@[simp] theorem takeTransmissionError_numValid (oa ob : Bool) (s : State) : (takeTransmissionError oa ob s).numValid = s.numValid := rfl
@[simp] theorem takeTransmissionError_debugLevel (oa ob : Bool) (s : State) : (takeTransmissionError oa ob s).debugLevel = s.debugLevel := rfl
@[simp] theorem takeTransmissionError_resOk (oa ob : Bool) (s : State) : (takeTransmissionError oa ob s).resOk = false := rfl
@[simp] theorem takeTransmissionError_resA (oa ob : Bool) (s : State) : (takeTransmissionError oa ob s).resA = if oa then Config.any8 s.draws else 0x00 := rfl
@[simp] theorem takeTransmissionError_resB (oa ob : Bool) (s : State) : (takeTransmissionError oa ob s).resB = if ob then Config.any8 (s.draws + oa.toNat) else 0x00 := rfl
@[simp] theorem takeTransmissionError_resWritten (oa ob : Bool) (s : State) : (takeTransmissionError oa ob s).resWritten = true := rfl
@[simp] theorem takeTransmissionError_cmds (oa ob : Bool) (s : State) : (takeTransmissionError oa ob s).cmds = s.cmds := rfl
@[simp] theorem takeTransmissionError_rst (oa ob : Bool) (s : State) : (takeTransmissionError oa ob s).rst = s.rst := rfl
@[simp] theorem takeTransmissionError_script (oa ob : Bool) (s : State) : (takeTransmissionError oa ob s).script = s.script := rfl
@[simp] theorem takeTransmissionError_tail (oa ob : Bool) (s : State) : (takeTransmissionError oa ob s).tail = s.tail := rfl
@[simp] theorem takeTransmissionError_wire (oa ob : Bool) (s : State) : (takeTransmissionError oa ob s).wire = s.wire := rfl
@[simp] theorem takeTransmissionError_trace (oa ob : Bool) (s : State) : (takeTransmissionError oa ob s).trace = s.trace := rfl
@[simp] theorem takeTransmissionError_draws (oa ob : Bool) (s : State) : (takeTransmissionError oa ob s).draws = s.draws + oa.toNat + ob.toNat := rfl
@[simp] theorem takeTransmissionError_traceDraws (oa ob : Bool) (s : State) : (takeTransmissionError oa ob s).traceDraws = s.traceDraws := rfl

/-! ### busResetEvent -/
@[simp] theorem busResetEvent_params (s : State) : (busResetEvent s).params = s.params := rfl
@[simp] theorem busResetEvent_req (s : State) : (busResetEvent s).req = s.req := rfl
@[simp] theorem busResetEvent_reply (s : State) : (busResetEvent s).reply = s.reply := rfl
@[simp] theorem busResetEvent_opAddr (s : State) : (busResetEvent s).opAddr = s.opAddr := rfl
@[simp] theorem busResetEvent_opDur (s : State) : (busResetEvent s).opDur = s.opDur := rfl
@[simp] theorem busResetEvent_hstate (s : State) : (busResetEvent s).hstate = s.hstate := rfl
@[simp] theorem busResetEvent_curOp (s : State) : (busResetEvent s).curOp = s.curOp := rfl
@[simp] theorem busResetEvent_seq (s : State) : (busResetEvent s).seq = s.seq := rfl
@[simp] theorem busResetEvent_scanAddr (s : State) : (busResetEvent s).scanAddr = s.scanAddr := rfl
@[simp] theorem busResetEvent_xph (s : State) : (busResetEvent s).xph = s.xph := rfl
@[simp] theorem busResetEvent_txi (s : State) : (busResetEvent s).txi = s.txi := rfl
@[simp] theorem busResetEvent_rxn (s : State) : (busResetEvent s).rxn = s.rxn := rfl
@[simp] theorem busResetEvent_sync (s : State) : (busResetEvent s).sync = s.sync := rfl
@[simp] theorem busResetEvent_estate (s : State) : (busResetEvent s).estate = s.estate := rfl
@[simp] theorem busResetEvent_erx (s : State) : (busResetEvent s).erx = s.erx := rfl
@[simp] theorem busResetEvent_success (s : State) : (busResetEvent s).success = s.success := rfl
@[simp] theorem busResetEvent_numDispensers (s : State) : (busResetEvent s).numDispensers = s.numDispensers := rfl
@[simp] theorem busResetEvent_numValid (s : State) : (busResetEvent s).numValid = s.numValid := rfl
@[simp] theorem busResetEvent_debugLevel (s : State) : (busResetEvent s).debugLevel = s.debugLevel := rfl
@[simp] theorem busResetEvent_resOk (s : State) : (busResetEvent s).resOk = s.resOk := rfl
@[simp] theorem busResetEvent_resA (s : State) : (busResetEvent s).resA = s.resA := rfl
@[simp] theorem busResetEvent_resB (s : State) : (busResetEvent s).resB = s.resB := rfl
@[simp] theorem busResetEvent_resWritten (s : State) : (busResetEvent s).resWritten = s.resWritten := rfl
@[simp] theorem busResetEvent_cmds (s : State) : (busResetEvent s).cmds = s.cmds := rfl
@[simp] theorem busResetEvent_rst (s : State) : (busResetEvent s).rst = s.rst := rfl
@[simp] theorem busResetEvent_script (s : State) : (busResetEvent s).script = s.script := rfl
@[simp] theorem busResetEvent_tail (s : State) : (busResetEvent s).tail = s.tail := rfl
@[simp] theorem busResetEvent_wire (s : State) : (busResetEvent s).wire = s.wire ++ [.busReset] := rfl
@[simp] theorem busResetEvent_trace (s : State) : (busResetEvent s).trace = s.trace := rfl
@[simp] theorem busResetEvent_draws (s : State) : (busResetEvent s).draws = s.draws := rfl
@[simp] theorem busResetEvent_traceDraws (s : State) : (busResetEvent s).traceDraws = s.traceDraws := rfl

/-! ### writeRequest -/
@[simp] theorem writeRequest_params (f : Frame) (s : State) : (writeRequest f s).params = s.params := rfl
@[simp] theorem writeRequest_req (f : Frame) (s : State) : (writeRequest f s).req = f := rfl
@[simp] theorem writeRequest_reply (f : Frame) (s : State) : (writeRequest f s).reply = s.reply := rfl
@[simp] theorem writeRequest_opAddr (f : Frame) (s : State) : (writeRequest f s).opAddr = s.opAddr := rfl
@[simp] theorem writeRequest_opDur (f : Frame) (s : State) : (writeRequest f s).opDur = s.opDur := rfl
@[simp] theorem writeRequest_hstate (f : Frame) (s : State) : (writeRequest f s).hstate = s.hstate := rfl
@[simp] theorem writeRequest_curOp (f : Frame) (s : State) : (writeRequest f s).curOp = s.curOp := rfl
@[simp] theorem writeRequest_seq (f : Frame) (s : State) : (writeRequest f s).seq = s.seq := rfl
@[simp] theorem writeRequest_scanAddr (f : Frame) (s : State) : (writeRequest f s).scanAddr = s.scanAddr := rfl
@[simp] theorem writeRequest_xph (f : Frame) (s : State) : (writeRequest f s).xph = s.xph := rfl
@[simp] theorem writeRequest_txi (f : Frame) (s : State) : (writeRequest f s).txi = s.txi := rfl
@[simp] theorem writeRequest_rxn (f : Frame) (s : State) : (writeRequest f s).rxn = s.rxn := rfl
@[simp] theorem writeRequest_sync (f : Frame) (s : State) : (writeRequest f s).sync = s.sync := rfl
@[simp] theorem writeRequest_estate (f : Frame) (s : State) : (writeRequest f s).estate = s.estate := rfl
@[simp] theorem writeRequest_erx (f : Frame) (s : State) : (writeRequest f s).erx = s.erx := rfl
@[simp] theorem writeRequest_success (f : Frame) (s : State) : (writeRequest f s).success = s.success := rfl
@[simp] theorem writeRequest_numDispensers (f : Frame) (s : State) : (writeRequest f s).numDispensers = s.numDispensers := rfl
@[simp] theorem writeRequest_numValid (f : Frame) (s : State) : (writeRequest f s).numValid = s.numValid := rfl
@[simp] theorem writeRequest_debugLevel (f : Frame) (s : State) : (writeRequest f s).debugLevel = s.debugLevel := rfl
@[simp] theorem writeRequest_resOk (f : Frame) (s : State) : (writeRequest f s).resOk = s.resOk := rfl
@[simp] theorem writeRequest_resA (f : Frame) (s : State) : (writeRequest f s).resA = s.resA := rfl
@[simp] theorem writeRequest_resB (f : Frame) (s : State) : (writeRequest f s).resB = s.resB := rfl
@[simp] theorem writeRequest_resWritten (f : Frame) (s : State) : (writeRequest f s).resWritten = s.resWritten := rfl
@[simp] theorem writeRequest_cmds (f : Frame) (s : State) : (writeRequest f s).cmds = s.cmds := rfl
@[simp] theorem writeRequest_rst (f : Frame) (s : State) : (writeRequest f s).rst = s.rst := rfl
@[simp] theorem writeRequest_script (f : Frame) (s : State) : (writeRequest f s).script = s.script := rfl
@[simp] theorem writeRequest_tail (f : Frame) (s : State) : (writeRequest f s).tail = s.tail := rfl
@[simp] theorem writeRequest_wire (f : Frame) (s : State) : (writeRequest f s).wire = s.wire := rfl
@[simp] theorem writeRequest_trace (f : Frame) (s : State) : (writeRequest f s).trace = s.trace := rfl
@[simp] theorem writeRequest_draws (f : Frame) (s : State) : (writeRequest f s).draws = s.draws := rfl
@[simp] theorem writeRequest_traceDraws (f : Frame) (s : State) : (writeRequest f s).traceDraws = s.traceDraws := rfl

/-! ### beginCommand -/
@[simp] theorem beginCommand_params (s : State) : (beginCommand s).params = s.params := rfl
@[simp] theorem beginCommand_req (s : State) : (beginCommand s).req = s.req := rfl
@[simp] theorem beginCommand_reply (s : State) : (beginCommand s).reply = s.reply := rfl
@[simp] theorem beginCommand_opAddr (s : State) : (beginCommand s).opAddr = s.opAddr := rfl
@[simp] theorem beginCommand_opDur (s : State) : (beginCommand s).opDur = s.opDur := rfl
@[simp] theorem beginCommand_hstate (s : State) : (beginCommand s).hstate = s.hstate := rfl
@[simp] theorem beginCommand_curOp (s : State) : (beginCommand s).curOp = s.curOp := rfl
@[simp] theorem beginCommand_seq (s : State) : (beginCommand s).seq = .cmd := rfl
@[simp] theorem beginCommand_scanAddr (s : State) : (beginCommand s).scanAddr = s.scanAddr := rfl
@[simp] theorem beginCommand_xph (s : State) : (beginCommand s).xph = s.xph := rfl
@[simp] theorem beginCommand_txi (s : State) : (beginCommand s).txi = s.txi := rfl
@[simp] theorem beginCommand_rxn (s : State) : (beginCommand s).rxn = s.rxn := rfl
@[simp] theorem beginCommand_sync (s : State) : (beginCommand s).sync = s.sync := rfl
@[simp] theorem beginCommand_estate (s : State) : (beginCommand s).estate = s.estate := rfl
@[simp] theorem beginCommand_erx (s : State) : (beginCommand s).erx = s.erx := rfl
@[simp] theorem beginCommand_success (s : State) : (beginCommand s).success = s.success := rfl
@[simp] theorem beginCommand_numDispensers (s : State) : (beginCommand s).numDispensers = s.numDispensers := rfl
@[simp] theorem beginCommand_numValid (s : State) : (beginCommand s).numValid = s.numValid := rfl
@[simp] theorem beginCommand_debugLevel (s : State) : (beginCommand s).debugLevel = s.debugLevel := rfl
@[simp] theorem beginCommand_resOk (s : State) : (beginCommand s).resOk = s.resOk := rfl
@[simp] theorem beginCommand_resA (s : State) : (beginCommand s).resA = s.resA := rfl
@[simp] theorem beginCommand_resB (s : State) : (beginCommand s).resB = s.resB := rfl
@[simp] theorem beginCommand_resWritten (s : State) : (beginCommand s).resWritten = s.resWritten := rfl
@[simp] theorem beginCommand_cmds (s : State) : (beginCommand s).cmds = s.cmds := rfl
@[simp] theorem beginCommand_rst (s : State) : (beginCommand s).rst = s.rst := rfl
@[simp] theorem beginCommand_script (s : State) : (beginCommand s).script = s.script := rfl
@[simp] theorem beginCommand_tail (s : State) : (beginCommand s).tail = s.tail := rfl
@[simp] theorem beginCommand_wire (s : State) : (beginCommand s).wire = s.wire := rfl
@[simp] theorem beginCommand_trace (s : State) : (beginCommand s).trace = s.trace := rfl
@[simp] theorem beginCommand_draws (s : State) : (beginCommand s).draws = s.draws := rfl
@[simp] theorem beginCommand_traceDraws (s : State) : (beginCommand s).traceDraws = s.traceDraws := rfl

/-! ### endAssign -/
@[simp] theorem endAssign_params (s : State) : (endAssign s).params = s.params := rfl
@[simp] theorem endAssign_req (s : State) : (endAssign s).req = s.req := rfl
@[simp] theorem endAssign_reply (s : State) : (endAssign s).reply = s.reply := rfl
@[simp] theorem endAssign_opAddr (s : State) : (endAssign s).opAddr = s.opAddr := rfl
@[simp] theorem endAssign_opDur (s : State) : (endAssign s).opDur = s.opDur := rfl
@[simp] theorem endAssign_hstate (s : State) : (endAssign s).hstate = .idle := rfl
@[simp] theorem endAssign_curOp (s : State) : (endAssign s).curOp = s.curOp := rfl
@[simp] theorem endAssign_seq (s : State) : (endAssign s).seq = s.seq := rfl
@[simp] theorem endAssign_scanAddr (s : State) : (endAssign s).scanAddr = s.scanAddr := rfl
@[simp] theorem endAssign_xph (s : State) : (endAssign s).xph = s.xph := rfl
@[simp] theorem endAssign_txi (s : State) : (endAssign s).txi = s.txi := rfl
@[simp] theorem endAssign_rxn (s : State) : (endAssign s).rxn = s.rxn := rfl
@[simp] theorem endAssign_sync (s : State) : (endAssign s).sync = s.sync := rfl
@[simp] theorem endAssign_estate (s : State) : (endAssign s).estate = .idle := rfl
@[simp] theorem endAssign_erx (s : State) : (endAssign s).erx = s.erx := rfl
@[simp] theorem endAssign_success (s : State) : (endAssign s).success = s.success := rfl
@[simp] theorem endAssign_numDispensers (s : State) : (endAssign s).numDispensers = slaveCount s.erx := rfl
@[simp] theorem endAssign_numValid (s : State) : (endAssign s).numValid = true := rfl
@[simp] theorem endAssign_debugLevel (s : State) : (endAssign s).debugLevel = s.debugLevel := rfl
@[simp] theorem endAssign_resOk (s : State) : (endAssign s).resOk = true := rfl
@[simp] theorem endAssign_resA (s : State) : (endAssign s).resA = slaveCount s.erx := rfl
@[simp] theorem endAssign_resB (s : State) : (endAssign s).resB = 0x00 := rfl
@[simp] theorem endAssign_resWritten (s : State) : (endAssign s).resWritten = true := rfl
@[simp] theorem endAssign_cmds (s : State) : (endAssign s).cmds = s.cmds := rfl
@[simp] theorem endAssign_rst (s : State) : (endAssign s).rst = s.rst := rfl
@[simp] theorem endAssign_script (s : State) : (endAssign s).script = s.script := rfl
@[simp] theorem endAssign_tail (s : State) : (endAssign s).tail = s.tail := rfl
@[simp] theorem endAssign_wire (s : State) : (endAssign s).wire = s.wire := rfl
@[simp] theorem endAssign_trace (s : State) : (endAssign s).trace = s.trace := rfl
@[simp] theorem endAssign_draws (s : State) : (endAssign s).draws = s.draws := rfl
@[simp] theorem endAssign_traceDraws (s : State) : (endAssign s).traceDraws = s.traceDraws := rfl

/-! ### exchangeEnd -/
@[simp] theorem exchangeEnd_params (r : Frame) (evs : List WireEvent) (rest : List Byte) (s : State) : (exchangeEnd r evs rest s).params = s.params := rfl
@[simp] theorem exchangeEnd_req (r : Frame) (evs : List WireEvent) (rest : List Byte) (s : State) : (exchangeEnd r evs rest s).req = s.req := rfl
@[simp] theorem exchangeEnd_reply (r : Frame) (evs : List WireEvent) (rest : List Byte) (s : State) : (exchangeEnd r evs rest s).reply = r := rfl
@[simp] theorem exchangeEnd_opAddr (r : Frame) (evs : List WireEvent) (rest : List Byte) (s : State) : (exchangeEnd r evs rest s).opAddr = s.opAddr := rfl
@[simp] theorem exchangeEnd_opDur (r : Frame) (evs : List WireEvent) (rest : List Byte) (s : State) : (exchangeEnd r evs rest s).opDur = s.opDur := rfl
@[simp] theorem exchangeEnd_hstate (r : Frame) (evs : List WireEvent) (rest : List Byte) (s : State) : (exchangeEnd r evs rest s).hstate = s.hstate := rfl
@[simp] theorem exchangeEnd_curOp (r : Frame) (evs : List WireEvent) (rest : List Byte) (s : State) : (exchangeEnd r evs rest s).curOp = s.curOp := rfl
@[simp] theorem exchangeEnd_seq (r : Frame) (evs : List WireEvent) (rest : List Byte) (s : State) : (exchangeEnd r evs rest s).seq = s.seq := rfl
@[simp] theorem exchangeEnd_scanAddr (r : Frame) (evs : List WireEvent) (rest : List Byte) (s : State) : (exchangeEnd r evs rest s).scanAddr = s.scanAddr := rfl
@[simp] theorem exchangeEnd_xph (r : Frame) (evs : List WireEvent) (rest : List Byte) (s : State) : (exchangeEnd r evs rest s).xph = .idle := rfl
@[simp] theorem exchangeEnd_txi (r : Frame) (evs : List WireEvent) (rest : List Byte) (s : State) : (exchangeEnd r evs rest s).txi = 6 := rfl
@[simp] theorem exchangeEnd_rxn (r : Frame) (evs : List WireEvent) (rest : List Byte) (s : State) : (exchangeEnd r evs rest s).rxn = 6 := rfl
@[simp] theorem exchangeEnd_sync (r : Frame) (evs : List WireEvent) (rest : List Byte) (s : State) : (exchangeEnd r evs rest s).sync = .accepting := rfl
@[simp] theorem exchangeEnd_estate (r : Frame) (evs : List WireEvent) (rest : List Byte) (s : State) : (exchangeEnd r evs rest s).estate = s.estate := rfl
@[simp] theorem exchangeEnd_erx (r : Frame) (evs : List WireEvent) (rest : List Byte) (s : State) : (exchangeEnd r evs rest s).erx = s.erx := rfl
@[simp] theorem exchangeEnd_success (r : Frame) (evs : List WireEvent) (rest : List Byte) (s : State) : (exchangeEnd r evs rest s).success = verify s.params s.req r := rfl
@[simp] theorem exchangeEnd_numDispensers (r : Frame) (evs : List WireEvent) (rest : List Byte) (s : State) : (exchangeEnd r evs rest s).numDispensers = s.numDispensers := rfl
@[simp] theorem exchangeEnd_numValid (r : Frame) (evs : List WireEvent) (rest : List Byte) (s : State) : (exchangeEnd r evs rest s).numValid = s.numValid := rfl
@[simp] theorem exchangeEnd_debugLevel (r : Frame) (evs : List WireEvent) (rest : List Byte) (s : State) : (exchangeEnd r evs rest s).debugLevel = s.debugLevel := rfl
@[simp] theorem exchangeEnd_resOk (r : Frame) (evs : List WireEvent) (rest : List Byte) (s : State) : (exchangeEnd r evs rest s).resOk = s.resOk := rfl
@[simp] theorem exchangeEnd_resA (r : Frame) (evs : List WireEvent) (rest : List Byte) (s : State) : (exchangeEnd r evs rest s).resA = s.resA := rfl
@[simp] theorem exchangeEnd_resB (r : Frame) (evs : List WireEvent) (rest : List Byte) (s : State) : (exchangeEnd r evs rest s).resB = s.resB := rfl
@[simp] theorem exchangeEnd_resWritten (r : Frame) (evs : List WireEvent) (rest : List Byte) (s : State) : (exchangeEnd r evs rest s).resWritten = s.resWritten := rfl
@[simp] theorem exchangeEnd_cmds (r : Frame) (evs : List WireEvent) (rest : List Byte) (s : State) : (exchangeEnd r evs rest s).cmds = s.cmds := rfl
@[simp] theorem exchangeEnd_rst (r : Frame) (evs : List WireEvent) (rest : List Byte) (s : State) : (exchangeEnd r evs rest s).rst = s.rst := rfl
@[simp] theorem exchangeEnd_script (r : Frame) (evs : List WireEvent) (rest : List Byte) (s : State) : (exchangeEnd r evs rest s).script = rest := rfl
@[simp] theorem exchangeEnd_tail (r : Frame) (evs : List WireEvent) (rest : List Byte) (s : State) : (exchangeEnd r evs rest s).tail = s.tail := rfl
@[simp] theorem exchangeEnd_wire (r : Frame) (evs : List WireEvent) (rest : List Byte) (s : State) : (exchangeEnd r evs rest s).wire = s.wire ++ evs := rfl
@[simp] theorem exchangeEnd_trace (r : Frame) (evs : List WireEvent) (rest : List Byte) (s : State) : (exchangeEnd r evs rest s).trace = s.trace := rfl
@[simp] theorem exchangeEnd_draws (r : Frame) (evs : List WireEvent) (rest : List Byte) (s : State) : (exchangeEnd r evs rest s).draws = s.draws := rfl
@[simp] theorem exchangeEnd_traceDraws (r : Frame) (evs : List WireEvent) (rest : List Byte) (s : State) : (exchangeEnd r evs rest s).traceDraws = s.traceDraws := rfl

/-! ### engineReset -/
@[simp] theorem engineReset_params (s : State) : (engineReset s).params = s.params := rfl
@[simp] theorem engineReset_req (s : State) : (engineReset s).req = State.reset.req := rfl
@[simp] theorem engineReset_reply (s : State) : (engineReset s).reply = State.reset.reply := rfl
@[simp] theorem engineReset_opAddr (s : State) : (engineReset s).opAddr = State.reset.opAddr := rfl
@[simp] theorem engineReset_opDur (s : State) : (engineReset s).opDur = State.reset.opDur := rfl
@[simp] theorem engineReset_hstate (s : State) : (engineReset s).hstate = State.reset.hstate := rfl
@[simp] theorem engineReset_curOp (s : State) : (engineReset s).curOp = State.reset.curOp := rfl
@[simp] theorem engineReset_seq (s : State) : (engineReset s).seq = State.reset.seq := rfl
@[simp] theorem engineReset_scanAddr (s : State) : (engineReset s).scanAddr = State.reset.scanAddr := rfl
@[simp] theorem engineReset_xph (s : State) : (engineReset s).xph = State.reset.xph := rfl
@[simp] theorem engineReset_txi (s : State) : (engineReset s).txi = State.reset.txi := rfl
@[simp] theorem engineReset_rxn (s : State) : (engineReset s).rxn = State.reset.rxn := rfl
@[simp] theorem engineReset_sync (s : State) : (engineReset s).sync = State.reset.sync := rfl
@[simp] theorem engineReset_estate (s : State) : (engineReset s).estate = State.reset.estate := rfl
@[simp] theorem engineReset_erx (s : State) : (engineReset s).erx = State.reset.erx := rfl
@[simp] theorem engineReset_success (s : State) : (engineReset s).success = State.reset.success := rfl
@[simp] theorem engineReset_numDispensers (s : State) : (engineReset s).numDispensers = State.reset.numDispensers := rfl
@[simp] theorem engineReset_numValid (s : State) : (engineReset s).numValid = State.reset.numValid := rfl
@[simp] theorem engineReset_debugLevel (s : State) : (engineReset s).debugLevel = State.reset.debugLevel := rfl
@[simp] theorem engineReset_resOk (s : State) : (engineReset s).resOk = State.reset.resOk := rfl
@[simp] theorem engineReset_resA (s : State) : (engineReset s).resA = State.reset.resA := rfl
@[simp] theorem engineReset_resB (s : State) : (engineReset s).resB = State.reset.resB := rfl
@[simp] theorem engineReset_resWritten (s : State) : (engineReset s).resWritten = State.reset.resWritten := rfl
@[simp] theorem engineReset_cmds (s : State) : (engineReset s).cmds = s.cmds := rfl
@[simp] theorem engineReset_rst (s : State) : (engineReset s).rst = State.reset.rst := rfl
@[simp] theorem engineReset_script (s : State) : (engineReset s).script = s.script := rfl
@[simp] theorem engineReset_tail (s : State) : (engineReset s).tail = s.tail := rfl
@[simp] theorem engineReset_wire (s : State) : (engineReset s).wire = s.wire := rfl
@[simp] theorem engineReset_trace (s : State) : (engineReset s).trace = s.trace := rfl
@[simp] theorem engineReset_draws (s : State) : (engineReset s).draws = s.draws := rfl
@[simp] theorem engineReset_traceDraws (s : State) : (engineReset s).traceDraws = s.traceDraws := rfl

/-! ### traceAttempt -/
@[simp] theorem traceAttempt_params (s : State) : (traceAttempt s).params = s.params := by unfold traceAttempt traceFree; split_ifs <;> rfl
@[simp] theorem traceAttempt_req (s : State) : (traceAttempt s).req = s.req := by unfold traceAttempt traceFree; split_ifs <;> rfl
@[simp] theorem traceAttempt_reply (s : State) : (traceAttempt s).reply = s.reply := by unfold traceAttempt traceFree; split_ifs <;> rfl
@[simp] theorem traceAttempt_opAddr (s : State) : (traceAttempt s).opAddr = s.opAddr := by unfold traceAttempt traceFree; split_ifs <;> rfl
@[simp] theorem traceAttempt_opDur (s : State) : (traceAttempt s).opDur = s.opDur := by unfold traceAttempt traceFree; split_ifs <;> rfl
@[simp] theorem traceAttempt_hstate (s : State) : (traceAttempt s).hstate = s.hstate := by unfold traceAttempt traceFree; split_ifs <;> rfl
@[simp] theorem traceAttempt_curOp (s : State) : (traceAttempt s).curOp = s.curOp := by unfold traceAttempt traceFree; split_ifs <;> rfl
@[simp] theorem traceAttempt_seq (s : State) : (traceAttempt s).seq = s.seq := by unfold traceAttempt traceFree; split_ifs <;> rfl
@[simp] theorem traceAttempt_scanAddr (s : State) : (traceAttempt s).scanAddr = s.scanAddr := by unfold traceAttempt traceFree; split_ifs <;> rfl
@[simp] theorem traceAttempt_xph (s : State) : (traceAttempt s).xph = s.xph := by unfold traceAttempt traceFree; split_ifs <;> rfl
@[simp] theorem traceAttempt_txi (s : State) : (traceAttempt s).txi = s.txi := by unfold traceAttempt traceFree; split_ifs <;> rfl
@[simp] theorem traceAttempt_rxn (s : State) : (traceAttempt s).rxn = s.rxn := by unfold traceAttempt traceFree; split_ifs <;> rfl
@[simp] theorem traceAttempt_sync (s : State) : (traceAttempt s).sync = s.sync := by unfold traceAttempt traceFree; split_ifs <;> rfl
@[simp] theorem traceAttempt_estate (s : State) : (traceAttempt s).estate = s.estate := by unfold traceAttempt traceFree; split_ifs <;> rfl
@[simp] theorem traceAttempt_erx (s : State) : (traceAttempt s).erx = s.erx := by unfold traceAttempt traceFree; split_ifs <;> rfl
@[simp] theorem traceAttempt_success (s : State) : (traceAttempt s).success = s.success := by unfold traceAttempt traceFree; split_ifs <;> rfl
@[simp] theorem traceAttempt_numDispensers (s : State) : (traceAttempt s).numDispensers = s.numDispensers := by unfold traceAttempt traceFree; split_ifs <;> rfl
@[simp] theorem traceAttempt_numValid (s : State) : (traceAttempt s).numValid = s.numValid := by unfold traceAttempt traceFree; split_ifs <;> rfl
@[simp] theorem traceAttempt_debugLevel (s : State) : (traceAttempt s).debugLevel = s.debugLevel := by unfold traceAttempt traceFree; split_ifs <;> rfl
@[simp] theorem traceAttempt_resOk (s : State) : (traceAttempt s).resOk = s.resOk := by unfold traceAttempt traceFree; split_ifs <;> rfl
@[simp] theorem traceAttempt_resA (s : State) : (traceAttempt s).resA = s.resA := by unfold traceAttempt traceFree; split_ifs <;> rfl
@[simp] theorem traceAttempt_resB (s : State) : (traceAttempt s).resB = s.resB := by unfold traceAttempt traceFree; split_ifs <;> rfl
@[simp] theorem traceAttempt_resWritten (s : State) : (traceAttempt s).resWritten = s.resWritten := by unfold traceAttempt traceFree; split_ifs <;> rfl
@[simp] theorem traceAttempt_cmds (s : State) : (traceAttempt s).cmds = s.cmds := by unfold traceAttempt traceFree; split_ifs <;> rfl
@[simp] theorem traceAttempt_rst (s : State) : (traceAttempt s).rst = s.rst := by unfold traceAttempt traceFree; split_ifs <;> rfl
@[simp] theorem traceAttempt_script (s : State) : (traceAttempt s).script = s.script := by unfold traceAttempt traceFree; split_ifs <;> rfl
@[simp] theorem traceAttempt_tail (s : State) : (traceAttempt s).tail = s.tail := by unfold traceAttempt traceFree; split_ifs <;> rfl
@[simp] theorem traceAttempt_wire (s : State) : (traceAttempt s).wire = s.wire := by unfold traceAttempt traceFree; split_ifs <;> rfl
@[simp] theorem traceAttempt_draws (s : State) : (traceAttempt s).draws = s.draws := by unfold traceAttempt traceFree; split_ifs <;> rfl

/-! ### traceByte -/
@[simp] theorem traceByte_params (tx rx : Byte) (s : State) : (traceByte tx rx s).params = s.params := by unfold traceByte traceFree; split_ifs <;> rfl
@[simp] theorem traceByte_req (tx rx : Byte) (s : State) : (traceByte tx rx s).req = s.req := by unfold traceByte traceFree; split_ifs <;> rfl
@[simp] theorem traceByte_reply (tx rx : Byte) (s : State) : (traceByte tx rx s).reply = s.reply := by unfold traceByte traceFree; split_ifs <;> rfl
@[simp] theorem traceByte_opAddr (tx rx : Byte) (s : State) : (traceByte tx rx s).opAddr = s.opAddr := by unfold traceByte traceFree; split_ifs <;> rfl
@[simp] theorem traceByte_opDur (tx rx : Byte) (s : State) : (traceByte tx rx s).opDur = s.opDur := by unfold traceByte traceFree; split_ifs <;> rfl
@[simp] theorem traceByte_hstate (tx rx : Byte) (s : State) : (traceByte tx rx s).hstate = s.hstate := by unfold traceByte traceFree; split_ifs <;> rfl
@[simp] theorem traceByte_curOp (tx rx : Byte) (s : State) : (traceByte tx rx s).curOp = s.curOp := by unfold traceByte traceFree; split_ifs <;> rfl
@[simp] theorem traceByte_seq (tx rx : Byte) (s : State) : (traceByte tx rx s).seq = s.seq := by unfold traceByte traceFree; split_ifs <;> rfl
@[simp] theorem traceByte_scanAddr (tx rx : Byte) (s : State) : (traceByte tx rx s).scanAddr = s.scanAddr := by unfold traceByte traceFree; split_ifs <;> rfl
@[simp] theorem traceByte_xph (tx rx : Byte) (s : State) : (traceByte tx rx s).xph = s.xph := by unfold traceByte traceFree; split_ifs <;> rfl
@[simp] theorem traceByte_txi (tx rx : Byte) (s : State) : (traceByte tx rx s).txi = s.txi := by unfold traceByte traceFree; split_ifs <;> rfl
@[simp] theorem traceByte_rxn (tx rx : Byte) (s : State) : (traceByte tx rx s).rxn = s.rxn := by unfold traceByte traceFree; split_ifs <;> rfl
@[simp] theorem traceByte_sync (tx rx : Byte) (s : State) : (traceByte tx rx s).sync = s.sync := by unfold traceByte traceFree; split_ifs <;> rfl
@[simp] theorem traceByte_estate (tx rx : Byte) (s : State) : (traceByte tx rx s).estate = s.estate := by unfold traceByte traceFree; split_ifs <;> rfl
@[simp] theorem traceByte_erx (tx rx : Byte) (s : State) : (traceByte tx rx s).erx = s.erx := by unfold traceByte traceFree; split_ifs <;> rfl
@[simp] theorem traceByte_success (tx rx : Byte) (s : State) : (traceByte tx rx s).success = s.success := by unfold traceByte traceFree; split_ifs <;> rfl
@[simp] theorem traceByte_numDispensers (tx rx : Byte) (s : State) : (traceByte tx rx s).numDispensers = s.numDispensers := by unfold traceByte traceFree; split_ifs <;> rfl
@[simp] theorem traceByte_numValid (tx rx : Byte) (s : State) : (traceByte tx rx s).numValid = s.numValid := by unfold traceByte traceFree; split_ifs <;> rfl
@[simp] theorem traceByte_debugLevel (tx rx : Byte) (s : State) : (traceByte tx rx s).debugLevel = s.debugLevel := by unfold traceByte traceFree; split_ifs <;> rfl
@[simp] theorem traceByte_resOk (tx rx : Byte) (s : State) : (traceByte tx rx s).resOk = s.resOk := by unfold traceByte traceFree; split_ifs <;> rfl
@[simp] theorem traceByte_resA (tx rx : Byte) (s : State) : (traceByte tx rx s).resA = s.resA := by unfold traceByte traceFree; split_ifs <;> rfl
@[simp] theorem traceByte_resB (tx rx : Byte) (s : State) : (traceByte tx rx s).resB = s.resB := by unfold traceByte traceFree; split_ifs <;> rfl
@[simp] theorem traceByte_resWritten (tx rx : Byte) (s : State) : (traceByte tx rx s).resWritten = s.resWritten := by unfold traceByte traceFree; split_ifs <;> rfl
@[simp] theorem traceByte_cmds (tx rx : Byte) (s : State) : (traceByte tx rx s).cmds = s.cmds := by unfold traceByte traceFree; split_ifs <;> rfl
@[simp] theorem traceByte_rst (tx rx : Byte) (s : State) : (traceByte tx rx s).rst = s.rst := by unfold traceByte traceFree; split_ifs <;> rfl
@[simp] theorem traceByte_script (tx rx : Byte) (s : State) : (traceByte tx rx s).script = s.script := by unfold traceByte traceFree; split_ifs <;> rfl
@[simp] theorem traceByte_tail (tx rx : Byte) (s : State) : (traceByte tx rx s).tail = s.tail := by unfold traceByte traceFree; split_ifs <;> rfl
@[simp] theorem traceByte_wire (tx rx : Byte) (s : State) : (traceByte tx rx s).wire = s.wire := by unfold traceByte traceFree; split_ifs <;> rfl
@[simp] theorem traceByte_draws (tx rx : Byte) (s : State) : (traceByte tx rx s).draws = s.draws := by unfold traceByte traceFree; split_ifs <;> rfl

/-! ### startExchange -/
@[simp] theorem startExchange_params (s : State) : (startExchange s).params = s.params := by simp [startExchange]
@[simp] theorem startExchange_req (s : State) : (startExchange s).req = s.req := by simp [startExchange]
@[simp] theorem startExchange_reply (s : State) : (startExchange s).reply = Frame.zero := rfl
@[simp] theorem startExchange_opAddr (s : State) : (startExchange s).opAddr = s.opAddr := by simp [startExchange]
@[simp] theorem startExchange_opDur (s : State) : (startExchange s).opDur = s.opDur := by simp [startExchange]
@[simp] theorem startExchange_hstate (s : State) : (startExchange s).hstate = s.hstate := by simp [startExchange]
@[simp] theorem startExchange_curOp (s : State) : (startExchange s).curOp = s.curOp := by simp [startExchange]
@[simp] theorem startExchange_seq (s : State) : (startExchange s).seq = s.seq := by simp [startExchange]
@[simp] theorem startExchange_scanAddr (s : State) : (startExchange s).scanAddr = s.scanAddr := by simp [startExchange]
@[simp] theorem startExchange_xph (s : State) : (startExchange s).xph = .req := rfl
@[simp] theorem startExchange_txi (s : State) : (startExchange s).txi = 0 := rfl
@[simp] theorem startExchange_rxn (s : State) : (startExchange s).rxn = 0 := rfl
@[simp] theorem startExchange_sync (s : State) : (startExchange s).sync = .seeking := rfl
@[simp] theorem startExchange_estate (s : State) : (startExchange s).estate = s.estate := by simp [startExchange]
@[simp] theorem startExchange_erx (s : State) : (startExchange s).erx = s.erx := by simp [startExchange]
@[simp] theorem startExchange_success (s : State) : (startExchange s).success = s.success := by simp [startExchange]
@[simp] theorem startExchange_numDispensers (s : State) : (startExchange s).numDispensers = s.numDispensers := by simp [startExchange]
@[simp] theorem startExchange_numValid (s : State) : (startExchange s).numValid = s.numValid := by simp [startExchange]
@[simp] theorem startExchange_debugLevel (s : State) : (startExchange s).debugLevel = s.debugLevel := by simp [startExchange]
@[simp] theorem startExchange_resOk (s : State) : (startExchange s).resOk = s.resOk := by simp [startExchange]
@[simp] theorem startExchange_resA (s : State) : (startExchange s).resA = s.resA := by simp [startExchange]
@[simp] theorem startExchange_resB (s : State) : (startExchange s).resB = s.resB := by simp [startExchange]
@[simp] theorem startExchange_resWritten (s : State) : (startExchange s).resWritten = s.resWritten := by simp [startExchange]
@[simp] theorem startExchange_cmds (s : State) : (startExchange s).cmds = s.cmds := by simp [startExchange]
@[simp] theorem startExchange_rst (s : State) : (startExchange s).rst = s.rst := by simp [startExchange]
@[simp] theorem startExchange_script (s : State) : (startExchange s).script = s.script := by simp [startExchange]
@[simp] theorem startExchange_tail (s : State) : (startExchange s).tail = s.tail := by simp [startExchange]
@[simp] theorem startExchange_wire (s : State) : (startExchange s).wire = s.wire := by simp [startExchange]
@[simp] theorem startExchange_draws (s : State) : (startExchange s).draws = s.draws := by simp [startExchange]

/-! ### countTx -/
@[simp] theorem countTx_params (s : State) : (countTx s).params = s.params := by unfold countTx; split_ifs <;> rfl
@[simp] theorem countTx_req (s : State) : (countTx s).req = s.req := by unfold countTx; split_ifs <;> rfl
@[simp] theorem countTx_reply (s : State) : (countTx s).reply = s.reply := by unfold countTx; split_ifs <;> rfl
@[simp] theorem countTx_opAddr (s : State) : (countTx s).opAddr = s.opAddr := by unfold countTx; split_ifs <;> rfl
@[simp] theorem countTx_opDur (s : State) : (countTx s).opDur = s.opDur := by unfold countTx; split_ifs <;> rfl
@[simp] theorem countTx_hstate (s : State) : (countTx s).hstate = s.hstate := by unfold countTx; split_ifs <;> rfl
@[simp] theorem countTx_curOp (s : State) : (countTx s).curOp = s.curOp := by unfold countTx; split_ifs <;> rfl
@[simp] theorem countTx_seq (s : State) : (countTx s).seq = s.seq := by unfold countTx; split_ifs <;> rfl
@[simp] theorem countTx_scanAddr (s : State) : (countTx s).scanAddr = s.scanAddr := by unfold countTx; split_ifs <;> rfl
@[simp] theorem countTx_xph (s : State) : (countTx s).xph = s.xph := by unfold countTx; split_ifs <;> rfl
@[simp] theorem countTx_rxn (s : State) : (countTx s).rxn = s.rxn := by unfold countTx; split_ifs <;> rfl
@[simp] theorem countTx_sync (s : State) : (countTx s).sync = s.sync := by unfold countTx; split_ifs <;> rfl
@[simp] theorem countTx_estate (s : State) : (countTx s).estate = s.estate := by unfold countTx; split_ifs <;> rfl
@[simp] theorem countTx_erx (s : State) : (countTx s).erx = s.erx := by unfold countTx; split_ifs <;> rfl
@[simp] theorem countTx_success (s : State) : (countTx s).success = s.success := by unfold countTx; split_ifs <;> rfl
@[simp] theorem countTx_numDispensers (s : State) : (countTx s).numDispensers = s.numDispensers := by unfold countTx; split_ifs <;> rfl
@[simp] theorem countTx_numValid (s : State) : (countTx s).numValid = s.numValid := by unfold countTx; split_ifs <;> rfl
@[simp] theorem countTx_debugLevel (s : State) : (countTx s).debugLevel = s.debugLevel := by unfold countTx; split_ifs <;> rfl
@[simp] theorem countTx_resOk (s : State) : (countTx s).resOk = s.resOk := by unfold countTx; split_ifs <;> rfl
@[simp] theorem countTx_resA (s : State) : (countTx s).resA = s.resA := by unfold countTx; split_ifs <;> rfl
@[simp] theorem countTx_resB (s : State) : (countTx s).resB = s.resB := by unfold countTx; split_ifs <;> rfl
@[simp] theorem countTx_resWritten (s : State) : (countTx s).resWritten = s.resWritten := by unfold countTx; split_ifs <;> rfl
@[simp] theorem countTx_cmds (s : State) : (countTx s).cmds = s.cmds := by unfold countTx; split_ifs <;> rfl
@[simp] theorem countTx_rst (s : State) : (countTx s).rst = s.rst := by unfold countTx; split_ifs <;> rfl
@[simp] theorem countTx_script (s : State) : (countTx s).script = s.script := by unfold countTx; split_ifs <;> rfl
@[simp] theorem countTx_tail (s : State) : (countTx s).tail = s.tail := by unfold countTx; split_ifs <;> rfl
@[simp] theorem countTx_wire (s : State) : (countTx s).wire = s.wire := by unfold countTx; split_ifs <;> rfl
@[simp] theorem countTx_trace (s : State) : (countTx s).trace = s.trace := by unfold countTx; split_ifs <;> rfl
@[simp] theorem countTx_draws (s : State) : (countTx s).draws = s.draws := by unfold countTx; split_ifs <;> rfl
@[simp] theorem countTx_traceDraws (s : State) : (countTx s).traceDraws = s.traceDraws := by unfold countTx; split_ifs <;> rfl

/-! ### settleExchange -/
@[simp] theorem settleExchange_params (s : State) : (settleExchange s).params = s.params := by unfold settleExchange; split_ifs <;> rfl
@[simp] theorem settleExchange_req (s : State) : (settleExchange s).req = s.req := by unfold settleExchange; split_ifs <;> rfl
@[simp] theorem settleExchange_reply (s : State) : (settleExchange s).reply = s.reply := by unfold settleExchange; split_ifs <;> rfl
@[simp] theorem settleExchange_opAddr (s : State) : (settleExchange s).opAddr = s.opAddr := by unfold settleExchange; split_ifs <;> rfl
@[simp] theorem settleExchange_opDur (s : State) : (settleExchange s).opDur = s.opDur := by unfold settleExchange; split_ifs <;> rfl
@[simp] theorem settleExchange_hstate (s : State) : (settleExchange s).hstate = s.hstate := by unfold settleExchange; split_ifs <;> rfl
@[simp] theorem settleExchange_curOp (s : State) : (settleExchange s).curOp = s.curOp := by unfold settleExchange; split_ifs <;> rfl
@[simp] theorem settleExchange_seq (s : State) : (settleExchange s).seq = s.seq := by unfold settleExchange; split_ifs <;> rfl
@[simp] theorem settleExchange_scanAddr (s : State) : (settleExchange s).scanAddr = s.scanAddr := by unfold settleExchange; split_ifs <;> rfl
@[simp] theorem settleExchange_txi (s : State) : (settleExchange s).txi = s.txi := by unfold settleExchange; split_ifs <;> rfl
@[simp] theorem settleExchange_rxn (s : State) : (settleExchange s).rxn = s.rxn := by unfold settleExchange; split_ifs <;> rfl
@[simp] theorem settleExchange_sync (s : State) : (settleExchange s).sync = s.sync := by unfold settleExchange; split_ifs <;> rfl
@[simp] theorem settleExchange_estate (s : State) : (settleExchange s).estate = s.estate := by unfold settleExchange; split_ifs <;> rfl
@[simp] theorem settleExchange_erx (s : State) : (settleExchange s).erx = s.erx := by unfold settleExchange; split_ifs <;> rfl
@[simp] theorem settleExchange_numDispensers (s : State) : (settleExchange s).numDispensers = s.numDispensers := by unfold settleExchange; split_ifs <;> rfl
@[simp] theorem settleExchange_numValid (s : State) : (settleExchange s).numValid = s.numValid := by unfold settleExchange; split_ifs <;> rfl
@[simp] theorem settleExchange_debugLevel (s : State) : (settleExchange s).debugLevel = s.debugLevel := by unfold settleExchange; split_ifs <;> rfl
@[simp] theorem settleExchange_resOk (s : State) : (settleExchange s).resOk = s.resOk := by unfold settleExchange; split_ifs <;> rfl
@[simp] theorem settleExchange_resA (s : State) : (settleExchange s).resA = s.resA := by unfold settleExchange; split_ifs <;> rfl
@[simp] theorem settleExchange_resB (s : State) : (settleExchange s).resB = s.resB := by unfold settleExchange; split_ifs <;> rfl
@[simp] theorem settleExchange_resWritten (s : State) : (settleExchange s).resWritten = s.resWritten := by unfold settleExchange; split_ifs <;> rfl
@[simp] theorem settleExchange_cmds (s : State) : (settleExchange s).cmds = s.cmds := by unfold settleExchange; split_ifs <;> rfl
@[simp] theorem settleExchange_rst (s : State) : (settleExchange s).rst = s.rst := by unfold settleExchange; split_ifs <;> rfl
@[simp] theorem settleExchange_script (s : State) : (settleExchange s).script = s.script := by unfold settleExchange; split_ifs <;> rfl
@[simp] theorem settleExchange_tail (s : State) : (settleExchange s).tail = s.tail := by unfold settleExchange; split_ifs <;> rfl
@[simp] theorem settleExchange_wire (s : State) : (settleExchange s).wire = s.wire := by unfold settleExchange; split_ifs <;> rfl
@[simp] theorem settleExchange_trace (s : State) : (settleExchange s).trace = s.trace := by unfold settleExchange; split_ifs <;> rfl
@[simp] theorem settleExchange_draws (s : State) : (settleExchange s).draws = s.draws := by unfold settleExchange; split_ifs <;> rfl
@[simp] theorem settleExchange_traceDraws (s : State) : (settleExchange s).traceDraws = s.traceDraws := by unfold settleExchange; split_ifs <;> rfl

end Sys2Proof.Machine
end

