-- ==== Sys2Proof/Laws/Codec.lean ====
section
/-!
SUPPORT. Laws of the operand forms, the decoder's parts and the flag computations.
-/

namespace Sys2Proof

/-! ## Buffers -/

theorem Frame.get?_eq_bytes (f : Frame) (k : Nat) : f.get? k = f.bytes[k]? := by
  rcases k with _ | _ | _ | _ | _ | _ | k <;> rfl

/-- A write exists exactly at the offsets 0 to 5 (R60). -/
theorem Frame.set?_isSome_iff (f : Frame) (k : Nat) (b : Byte) : (f.set? k b).isSome ↔ k < 6 := by
  rcases k with _ | _ | _ | _ | _ | _ | k <;> simp [Frame.set?]

/-- A read after a write to the same offset gives the byte written. -/
theorem Frame.get?_set?_same {f g : Frame} {k : Nat} {b : Byte} (h : f.set? k b = some g) : g.get? k = some b := by
  rcases k with _ | _ | _ | _ | _ | _ | k <;> simp [Frame.set?] at h <;> subst h <;> rfl

/-- A write leaves every other offset alone. -/
theorem Frame.get?_set?_other {f g : Frame} {k j : Nat} {b : Byte} (h : f.set? k b = some g) (hj : j ≠ k) :
    g.get? j = f.get? j := by
  rcases k with _ | _ | _ | _ | _ | _ | k <;> simp [Frame.set?] at h <;> subst h <;>
    rcases j with _ | _ | _ | _ | _ | _ | j <;> simp_all [Frame.get?]

/-! ## Words and frames -/

@[simp] theorem wordOp_commandWord (op a : Byte) (d : Half) : wordOp (commandWord op a d) = op := by
  simp only [wordOp, commandWord]; ext i hi; simp; grind

@[simp] theorem wordA_commandWord (op a : Byte) (d : Half) : wordA (commandWord op a d) = a := by
  simp only [wordA, commandWord]; ext i hi; simp; grind

@[simp] theorem wordD_commandWord (op a : Byte) (d : Half) : wordD (commandWord op a d) = d := by
  simp only [wordD, commandWord]; ext i hi; simp; grind

/-- A command word is its three fields. -/
theorem commandWord_fields (w : Word32) : commandWord (wordOp w) (wordA w) (wordD w) = w := by
  simp only [wordOp, wordA, wordD, commandWord]; ext i hi; simp; grind

@[simp] theorem payloadDuration_durationPayload (o : DurOrder) (d : Half) :
    payloadDuration o (durationPayload o d).1 (durationPayload o d).2 = d := by
  cases o <;> simp only [payloadDuration, durationPayload] <;> ext i hi <;> simp <;> grind

/-- A 48-bit number is the number of its frame (R90). -/
theorem frameNumber_frameOfNumber (w : BitVec 48) : frameNumber (frameOfNumber w) = w := by
  simp only [frameNumber, frameOfNumber]; ext i hi; simp; grind

/-! ## Type codes -/

/-- TYPE_CODE is injective (R93). -/
theorem Params.typeCode_injective {p : Params} (hp : p.Wf) {k k' : Kind} (h : p.typeCode k = p.typeCode k') : k = k' := by
  obtain ⟨hp, -⟩ := hp
  cases k <;> cases k' <;> simp_all [Params.typeCode]

theorem kindOfType_typeCode {p : Params} (hp : p.Wf) (k : Kind) : kindOfType p (p.typeCode k) = some k := by
  obtain ⟨hp, -⟩ := hp
  simp only [List.nodup_cons, List.mem_cons, List.not_mem_nil, not_or] at hp
  cases k <;> simp only [kindOfType, Params.typeCode] <;> grind

/-! ## Decoding -/

/-- What a word must be to decode to a command: the command's code and its two fields (R101, R102). -/
theorem decodeCommand_commandWord_lt (op a : Byte) (d : Half) (i : Instr)
    (h : decodeCommand (commandWord op a d) = .instr i) : op.toNat < 8 := by
  unfold decodeCommand at h
  split at h <;> simp_all

end Sys2Proof

namespace Sys2Proof.Machine

/-! ## Verification -/

/-- The comparison of R160 with the exemption of R161 as the formula of R162. -/
theorem verify_formula (p : Params) (req reply : Frame) :
    verify p req reply = true ↔
      (req.header0 = reply.header0 ∧ req.header1 = reply.header1 ∧ req.address = reply.address ∧
        req.typeByte = reply.typeByte ∧
        (req.typeByte = p.typeCode .response ∨
          (req.payload0 = reply.payload0 ∧ req.payload1 = reply.payload1))) := by
  have hr : List.range Config.frameSize = [0, 1, 2, 3, 4, 5] := rfl
  simp only [verify, hr, List.all_cons, List.all_nil, offsetMatches, Config.exempt, Frame.get?, isResponse]
  by_cases h : req.typeByte = p.typeCode .response <;> simp [h]

/-- An exact echo verifies, whatever the kind. -/
@[simp] theorem verify_self (p : Params) (req : Frame) : verify p req req = true := by
  simp [verify_formula]

/-- A request of another kind than RESPONSE verifies its exact echo only. -/
theorem verify_other {p : Params} {req reply : Frame} (h : req.typeByte ≠ p.typeCode .response) :
    verify p req reply = true ↔ reply = req := by
  rw [verify_formula]
  cases req; cases reply
  simp at h ⊢
  tauto

/-- The poll goes on exactly at 0x00 and 0xFF (R192). -/
theorem notYetAnswered_iff (rx : Byte) : notYetAnswered rx = true ↔ rx = 0x00 ∨ rx = 0xFF := by
  simp [notYetAnswered, Config.syncByte]

end Sys2Proof.Machine
end

