-- ==== Sys2Proof/Laws/Ops.lean ====
section
/-!
SUPPORT. What each shared operation of the machine can do, said once: the link transfer, one step of EXCHANGE, one step
of the sequencer. Proofs cite these instead of unfolding the operations.
-/

namespace Sys2Proof.Machine

/-! ## The link -/

theorem linkReturns_cons {s : State} {rx : Byte} {rest : List Byte} (h : s.script = rx :: rest) (tx : Byte) :
    linkReturns tx s = some rx := by
  simp [linkReturns, h]

theorem linkReturns_repeats {s : State} {b : Byte} (h : s.script = []) (ht : s.tail = .repeats b) (tx : Byte) :
    linkReturns tx s = some b := by
  simp [linkReturns, h, ht]

theorem linkReturns_stalled {s : State} (h : s.script = []) (ht : s.tail = .stalled) (tx : Byte) :
    linkReturns tx s = none := by
  simp [linkReturns, h, ht]

/-- A link that has no answer has no answer listed. -/
theorem script_of_linkReturns_none {s : State} {tx : Byte} (h : linkReturns tx s = none) : s.script = [] := by
  cases hs : s.script with
  | nil => rfl
  | cons rx rest => rw [linkReturns_cons hs] at h; cases h

theorem xfer_of_answer {s : State} {tx rx : Byte} (h : linkReturns tx s = some rx) (k : Byte → State → Result) :
    xfer tx k s = k rx (recordXfer tx rx s) := by
  simp [xfer, h]

theorem xfer_of_silence {s : State} {tx : Byte} (h : linkReturns tx s = none) (k : Byte → State → Result) :
    xfer tx k s = .fault .linkStalled := by
  simp [xfer, h]

/-! ## Trace: only the trace fields can change (R30, R165) -/

theorem traceAttempt_only (s : State) :
    traceAttempt s = { s with trace := (traceAttempt s).trace, traceDraws := (traceAttempt s).traceDraws } := by
  unfold traceAttempt traceFree; split_ifs <;> rfl

theorem traceByte_only (tx rx : Byte) (s : State) :
    traceByte tx rx s = { s with trace := (traceByte tx rx s).trace, traceDraws := (traceByte tx rx s).traceDraws } := by
  unfold traceByte traceFree; split_ifs <;> rfl

/-! ## EXCHANGE -/

theorem startExchange_only (s : State) :
    startExchange s = { s with
      reply := Frame.zero, txi := 0, rxn := 0, sync := .seeking, xph := .req
      trace := (startExchange s).trace, traceDraws := (startExchange s).traceDraws } := by
  rw [startExchange, traceAttempt_only]

theorem execExchange_idle {s : State} (h : s.xph = .idle) : execExchange s = .next (startExchange s) := by
  simp [execExchange, h]

/-- The state in which a transfer's answer is received: the transfer recorded, traced, and counted. -/
def transferred (tx rx : Byte) (s : State) : State := countTx (traceByte tx rx (recordXfer tx rx s))

theorem transferred_of_req {s : State} (h : s.xph = .req) (tx rx : Byte) :
    transferred tx rx s = { s with
      txi := s.txi + 1, script := s.script.tail, wire := s.wire ++ [.xfer tx rx]
      trace := (transferred tx rx s).trace, traceDraws := (transferred tx rx s).traceDraws } := by
  rw [transferred, traceByte_only]
  simp [countTx, h, recordXfer]

theorem transferred_of_fill {s : State} (h : s.xph ≠ .req) (tx rx : Byte) :
    transferred tx rx s = { s with
      script := s.script.tail, wire := s.wire ++ [.xfer tx rx]
      trace := (transferred tx rx s).trace, traceDraws := (transferred tx rx s).traceDraws } := by
  rw [transferred, traceByte_only]
  simp [countTx, h, recordXfer]

@[simp] theorem transferred_params (tx rx : Byte) (s : State) : (transferred tx rx s).params = s.params := by simp [transferred]
@[simp] theorem transferred_req (tx rx : Byte) (s : State) : (transferred tx rx s).req = s.req := by simp [transferred]
@[simp] theorem transferred_reply (tx rx : Byte) (s : State) : (transferred tx rx s).reply = s.reply := by simp [transferred]
@[simp] theorem transferred_opAddr (tx rx : Byte) (s : State) : (transferred tx rx s).opAddr = s.opAddr := by simp [transferred]
@[simp] theorem transferred_opDur (tx rx : Byte) (s : State) : (transferred tx rx s).opDur = s.opDur := by simp [transferred]
@[simp] theorem transferred_hstate (tx rx : Byte) (s : State) : (transferred tx rx s).hstate = s.hstate := by simp [transferred]
@[simp] theorem transferred_curOp (tx rx : Byte) (s : State) : (transferred tx rx s).curOp = s.curOp := by simp [transferred]
@[simp] theorem transferred_seq (tx rx : Byte) (s : State) : (transferred tx rx s).seq = s.seq := by simp [transferred]
@[simp] theorem transferred_scanAddr (tx rx : Byte) (s : State) : (transferred tx rx s).scanAddr = s.scanAddr := by simp [transferred]
@[simp] theorem transferred_xph (tx rx : Byte) (s : State) : (transferred tx rx s).xph = s.xph := by simp [transferred]
@[simp] theorem transferred_rxn (tx rx : Byte) (s : State) : (transferred tx rx s).rxn = s.rxn := by simp [transferred]
@[simp] theorem transferred_sync (tx rx : Byte) (s : State) : (transferred tx rx s).sync = s.sync := by simp [transferred]
@[simp] theorem transferred_estate (tx rx : Byte) (s : State) : (transferred tx rx s).estate = s.estate := by simp [transferred]
@[simp] theorem transferred_erx (tx rx : Byte) (s : State) : (transferred tx rx s).erx = s.erx := by simp [transferred]
@[simp] theorem transferred_success (tx rx : Byte) (s : State) : (transferred tx rx s).success = s.success := by simp [transferred]
@[simp] theorem transferred_numDispensers (tx rx : Byte) (s : State) : (transferred tx rx s).numDispensers = s.numDispensers := by simp [transferred]
@[simp] theorem transferred_numValid (tx rx : Byte) (s : State) : (transferred tx rx s).numValid = s.numValid := by simp [transferred]
@[simp] theorem transferred_debugLevel (tx rx : Byte) (s : State) : (transferred tx rx s).debugLevel = s.debugLevel := by simp [transferred]
@[simp] theorem transferred_resOk (tx rx : Byte) (s : State) : (transferred tx rx s).resOk = s.resOk := by simp [transferred]
@[simp] theorem transferred_resA (tx rx : Byte) (s : State) : (transferred tx rx s).resA = s.resA := by simp [transferred]
@[simp] theorem transferred_resB (tx rx : Byte) (s : State) : (transferred tx rx s).resB = s.resB := by simp [transferred]
@[simp] theorem transferred_resWritten (tx rx : Byte) (s : State) : (transferred tx rx s).resWritten = s.resWritten := by simp [transferred]
@[simp] theorem transferred_cmds (tx rx : Byte) (s : State) : (transferred tx rx s).cmds = s.cmds := by simp [transferred]
@[simp] theorem transferred_rst (tx rx : Byte) (s : State) : (transferred tx rx s).rst = s.rst := by simp [transferred]
@[simp] theorem transferred_tail (tx rx : Byte) (s : State) : (transferred tx rx s).tail = s.tail := by simp [transferred]
@[simp] theorem transferred_draws (tx rx : Byte) (s : State) : (transferred tx rx s).draws = s.draws := by simp [transferred]
@[simp] theorem transferred_script (tx rx : Byte) (s : State) : (transferred tx rx s).script = s.script.tail := by
  simp [transferred]
@[simp] theorem transferred_wire (tx rx : Byte) (s : State) :
    (transferred tx rx s).wire = s.wire ++ [.xfer tx rx] := by
  simp [transferred]
theorem transferred_txi_req {s : State} (h : s.xph = .req) (tx rx : Byte) : (transferred tx rx s).txi = s.txi + 1 := by
  simp [transferred, countTx, h]
theorem transferred_txi_fill {s : State} (h : s.xph ≠ .req) (tx rx : Byte) : (transferred tx rx s).txi = s.txi := by
  simp [transferred, countTx, h]

/-! The two tests at the end of X_step (R158, R166). -/

theorem settleExchange_full {s : State} (h : s.rxn = 6) :
    settleExchange s = { s with success := verify s.params s.req s.reply, xph := .idle } := by
  rw [settleExchange, if_pos h]

theorem settleExchange_phaseEnd {s : State} (h : s.rxn ≠ 6) (hx : s.xph = .req) (ht : s.txi = 6) :
    settleExchange s = { s with xph := .fill } := by
  rw [settleExchange, if_neg h, if_pos ⟨hx, ht⟩]

theorem settleExchange_goesOn {s : State} (h : s.rxn ≠ 6) (hx : ¬(s.xph = .req ∧ s.txi = 6)) :
    settleExchange s = s := by
  rw [settleExchange, if_neg h, if_neg hx]

theorem isFirstTransfer_recordXfer (tx rx : Byte) (s : State) :
    isFirstTransfer (recordXfer tx rx s) = isFirstTransfer s := rfl

/-- One transfer whose answer is discarded (R153, R154). -/
theorem execExchange_discard {s : State} {tx rx : Byte} (hx : s.xph ≠ .idle) (htx : byteToSend s = some tx)
    (hrx : linkReturns tx s = some rx) (ha : acceptsByte (isFirstTransfer s) s.sync rx = false) :
    execExchange s = .next (settleExchange (transferred tx rx s)) := by
  simp [execExchange, hx, transferStep, htx, xfer_of_answer hrx, afterTransfer, receiveByte, isFirstTransfer_recordXfer,
    ha, transferred]

/-- One transfer whose answer is accepted (R155). -/
theorem execExchange_accept {s : State} {tx rx : Byte} {r : Frame} (hx : s.xph ≠ .idle) (htx : byteToSend s = some tx)
    (hrx : linkReturns tx s = some rx) (ha : acceptsByte (isFirstTransfer s) s.sync rx = true)
    (hr : s.reply.set? s.rxn.toNat rx = some r) :
    execExchange s = .next (settleExchange
      { transferred tx rx s with reply := r, rxn := s.rxn + 1, sync := .accepting }) := by
  simp [execExchange, hx, transferStep, htx, xfer_of_answer hrx, afterTransfer, receiveByte, isFirstTransfer_recordXfer,
    ha, storeReply, hr, transferred]

/-- Everything one step of EXCHANGE can do. -/
theorem execExchange_cases {s t : State} (h : execExchange s = .next t) :
    (s.xph = .idle ∧ t = startExchange s) ∨
    ∃ tx rx, s.xph ≠ .idle ∧ byteToSend s = some tx ∧ linkReturns tx s = some rx ∧
      ((acceptsByte (isFirstTransfer s) s.sync rx = false ∧ t = settleExchange (transferred tx rx s)) ∨
        ∃ r, acceptsByte (isFirstTransfer s) s.sync rx = true ∧ s.reply.set? s.rxn.toNat rx = some r ∧
          t = settleExchange { transferred tx rx s with reply := r, rxn := s.rxn + 1, sync := .accepting }) := by
  by_cases hx : s.xph = .idle
  · rw [execExchange_idle hx] at h
    exact .inl ⟨hx, by cases h; rfl⟩
  right
  cases htx : byteToSend s with
  | none => simp [execExchange, hx, transferStep, htx] at h
  | some tx =>
    cases hrx : linkReturns tx s with
    | none => simp [execExchange, hx, transferStep, htx, xfer_of_silence hrx] at h
    | some rx =>
      refine ⟨tx, rx, hx, rfl, hrx, ?_⟩
      cases ha : acceptsByte (isFirstTransfer s) s.sync rx with
      | false =>
        rw [execExchange_discard hx htx hrx ha] at h
        exact .inl ⟨rfl, by cases h; rfl⟩
      | true =>
        cases hr : s.reply.set? s.rxn.toNat rx with
        | none =>
          simp [execExchange, hx, transferStep, htx, xfer_of_answer hrx, afterTransfer, receiveByte,
            isFirstTransfer_recordXfer, ha, storeReply, hr] at h
        | some r =>
          rw [execExchange_accept hx htx hrx ha hr] at h
          exact .inr ⟨r, rfl, rfl, by cases h; rfl⟩

/-- A transfer while the reply has room always completes: its answer is discarded or accepted. -/
theorem execExchange_room {s : State} {tx rx : Byte} (hx : s.xph ≠ .idle) (htx : byteToSend s = some tx)
    (hrx : linkReturns tx s = some rx) (hr : s.rxn.toNat < 6) :
    (acceptsByte (isFirstTransfer s) s.sync rx = false ∧
      execExchange s = .next (settleExchange (transferred tx rx s))) ∨
    (acceptsByte (isFirstTransfer s) s.sync rx = true ∧ ∃ r, s.reply.set? s.rxn.toNat rx = some r ∧
      execExchange s = .next (settleExchange
        { transferred tx rx s with reply := r, rxn := s.rxn + 1, sync := .accepting })) := by
  cases ha : acceptsByte (isFirstTransfer s) s.sync rx
  · exact .inl ⟨rfl, execExchange_discard hx htx hrx ha⟩
  · obtain ⟨r, hr'⟩ := Option.isSome_iff_exists.mp ((Frame.set?_isSome_iff s.reply s.rxn.toNat rx).mpr hr)
    exact .inr ⟨rfl, r, hr', execExchange_accept hx htx hrx ha hr'⟩

theorem byteToSend_req {s : State} (h : s.xph = .req) : byteToSend s = s.req.bytes[s.txi.toNat]? := by
  simp [byteToSend, h, Frame.get?_eq_bytes]

theorem byteToSend_fill {s : State} (h : s.xph = .fill) : byteToSend s = some 0x00 := by
  simp [byteToSend, h, Config.fillerTx]

/-- From the second transfer on, no transfer is the first. -/
theorem isFirstTransfer_later {s : State} (h : (s.xph = .req ∧ 1 ≤ s.txi.toNat) ∨ s.xph = .fill) :
    isFirstTransfer s = false := by
  rcases h with ⟨h, h1⟩ | h
  · have : s.txi ≠ 0 := fun h0 => by simp [h0] at h1
    simpa [isFirstTransfer, h] using this
  · simp [isFirstTransfer, h]

/-! ## The sequencer -/

theorem drivePair_idle {s u : State} {build resume : State → Result} (hx : s.xph = .idle) (hb : build s = .next u) :
    drivePair build resume s = execExchange u := by
  simp [drivePair, hx, hb]

theorem drivePair_transfer {s u : State} {build resume : State → Result} (hx : s.xph ≠ .idle)
    (he : execExchange s = .next u) : drivePair build resume s = if u.xph = .idle then resume u else .next u := by
  simp [drivePair, hx, he]

/-- Everything one step of a BUILD and EXCHANGE pair can do. -/
theorem drivePair_cases {s t : State} {build resume : State → Result} (h : drivePair build resume s = .next t) :
    (∃ u, s.xph = .idle ∧ build s = .next u ∧ execExchange u = .next t) ∨
    ∃ u, s.xph ≠ .idle ∧ execExchange s = .next u ∧
      ((u.xph ≠ .idle ∧ t = u) ∨ (u.xph = .idle ∧ resume u = .next t)) := by
  unfold drivePair at h
  by_cases hx : s.xph = .idle
  · left
    cases hb : build s with
    | next u => simp [hx, hb] at h; exact ⟨u, hx, rfl, h⟩
    | fault r => simp [hx, hb] at h
    | refused r => simp [hx, hb] at h
  · right
    cases he : execExchange s with
    | next u =>
      simp only [hx, if_false, he] at h
      refine ⟨u, hx, rfl, ?_⟩
      by_cases hu : u.xph = .idle
      · exact .inr ⟨hu, by simpa [hu] using h⟩
      · exact .inl ⟨hu, by simpa [hu, eq_comm] using h⟩
    | fault r => simp [hx, he] at h
    | refused r => simp [hx, he] at h

/-- The latches hold a command. -/
theorem inProgress_iff {op : BitVec 3} {a : Byte} {d : Half} {s : State} :
    inProgress op a d s = true ↔ s.curOp = op ∧ s.opAddr = a ∧ s.opDur = d := by
  simp [inProgress, and_assoc]

theorem deviceOp_idle {op : BitVec 3} {a : Byte} {d : Half} {begin : State → State} {build resume : State → Result}
    {s : State} (h : s.hstate = .idle) : deviceOp op a d begin build resume s = .next (begin (accept op a d s)) := by
  simp [deviceOp, h]

theorem deviceOp_busy {op : BitVec 3} {a : Byte} {d : Half} {begin : State → State} {build resume : State → Result}
    {s : State} (h : s.hstate = .busy) (ho : s.curOp = op) (ha : s.opAddr = a) (hd : s.opDur = d) :
    deviceOp op a d begin build resume s = drivePair build resume s := by
  simp [deviceOp, h, inProgress, ho, ha, hd]

/-- Everything one step of a device operation can do. -/
theorem deviceOp_cases {op : BitVec 3} {a : Byte} {d : Half} {begin : State → State} {build resume : State → Result}
    {s t : State} (h : deviceOp op a d begin build resume s = .next t) :
    (s.hstate = .idle ∧ t = begin (accept op a d s)) ∨
    (s.hstate = .busy ∧ s.curOp = op ∧ s.opAddr = a ∧ s.opDur = d ∧ drivePair build resume s = .next t) := by
  cases hs : s.hstate with
  | idle => rw [deviceOp_idle hs] at h; exact .inl ⟨rfl, by cases h; rfl⟩
  | busy =>
    by_cases hp : inProgress op a d s
    · obtain ⟨ho, ha, hd⟩ := inProgress_iff.mp hp
      rw [deviceOp_busy hs ho ha hd] at h
      exact .inr ⟨rfl, ho, ha, hd, h⟩
    · simp [deviceOp, hs, hp] at h

end Sys2Proof.Machine
end

