-- ==== Sys2Proof/Laws/Step.lean ====
section
/-!
SUPPORT. What one engine step, ASSIGN and the housekeeping commands can do, and how runs of steps compose.
-/

namespace Sys2Proof.Machine

theorem fetch_idle {s : State} {w : Word32} {ws : List Word32} (h : s.hstate = .idle) (hc : s.cmds = w :: ws) :
    fetch s = some (w, { s with cmds := ws }) := by
  simp [fetch, h, hc]

theorem fetch_busy {s : State} (h : s.hstate = .busy) : fetch s = some (latchedWord s, s) := by
  simp [fetch, h]

/-- The command the latches hold, by CUR_OP (R24, R103). -/
theorem decodeCommand_latchedWord (s : State) :
    decodeCommand (latchedWord s) = .instr
      (match s.curOp.toNat with
        | 0 => .busReset s.opAddr s.opDur
        | 1 => .assign s.opAddr s.opDur
        | 2 => .turnOn s.opAddr s.opDur
        | 3 => .turnOff s.opAddr s.opDur
        | 4 => .dispense s.opAddr s.opDur
        | 5 => .checkAll s.opAddr s.opDur
        | 6 => .getState s.opAddr s.opDur
        | _ => .setDebug s.opAddr s.opDur) := by
  have h8 : s.curOp.toNat < 8 := s.curOp.isLt
  have hw : (wordOp (latchedWord s)).toNat = s.curOp.toNat := by
    simp [latchedWord, Nat.mod_eq_of_lt (show s.curOp.toNat < 256 by omega)]
  unfold decodeCommand
  rw [hw]
  simp only [latchedWord, wordA_commandWord, wordD_commandWord]
  interval_cases s.curOp.toNat <;> rfl

/-- Everything a step can do when it answers a next state. -/
theorem step_cases {s t : State} (h : step s = .next t) :
    (s.rst = true ∧ t = engineReset s) ∨
    (s.rst = false ∧ s.hstate = .idle ∧ s.cmds = [] ∧ t = s) ∨
    (∃ w ws i, s.rst = false ∧ s.hstate = .idle ∧ s.cmds = w :: ws ∧ decodeCommand w = .instr i ∧
      exec i { s with cmds := ws } = .next t) ∨
    (∃ i, s.rst = false ∧ s.hstate = .busy ∧ decodeCommand (latchedWord s) = .instr i ∧ exec i s = .next t) := by
  unfold step at h
  by_cases hr : s.rst = true
  · rw [if_pos hr] at h
    exact .inl ⟨hr, by cases h; rfl⟩
  rw [if_neg hr] at h
  have hr' : s.rst = false := by simpa using hr
  right
  rcases (show s.hstate = .idle ∨ s.hstate = .busy by cases s.hstate <;> simp) with hh | hh
  · rcases hc : s.cmds with _ | ⟨w, ws⟩
    · simp only [fetch, hh, hc] at h
      exact .inl ⟨hr', hh, rfl, by cases h; rfl⟩
    · right; left
      rw [fetch_idle hh hc] at h
      dsimp only at h
      rcases hd : decodeCommand w with i | r
      · rw [hd] at h
        exact ⟨w, ws, i, hr', hh, rfl, hd, h⟩
      · rw [hd] at h
        cases h
  · right; right
    rw [fetch_busy hh] at h
    dsimp only at h
    rw [decodeCommand_latchedWord] at h
    exact ⟨_, hr', hh, decodeCommand_latchedWord s, h⟩

/-! ## Commands -/

/-- Everything one step of ASSIGN can do. -/
theorem execAssign_cases {a : Byte} {d : Half} {s t : State} (h : execAssign a d s = .next t) :
    (s.hstate = .idle ∧ t = { accept 1 a d s with estate := .primer }) ∨
    (∃ rx, s.hstate = .busy ∧ s.curOp = 1 ∧ s.estate = .primer ∧ linkReturns s.params.primer s = some rx ∧
      t = { recordXfer s.params.primer rx s with estate := .poll }) ∨
    (∃ rx, s.hstate = .busy ∧ s.curOp = 1 ∧ s.estate = .poll ∧ linkReturns 0x00 s = some rx ∧
      ((notYetAnswered rx = true ∧ t = { recordXfer 0x00 rx s with erx := rx }) ∨
        (notYetAnswered rx = false ∧ t = endAssign { recordXfer 0x00 rx s with erx := rx }))) := by
  cases hs : s.hstate with
  | idle =>
    simp only [execAssign, hs] at h
    exact .inl ⟨rfl, by cases h; rfl⟩
  | busy =>
    right
    by_cases hp : inProgress 1 a d s
    · have ho := (inProgress_iff.mp hp).1
      simp only [execAssign, hs, if_pos hp] at h
      cases he : s.estate with
      | idle => simp [he] at h
      | primer =>
        simp only [he, primerStep] at h
        rcases hl : linkReturns s.params.primer s with _ | rx
        · rw [xfer_of_silence hl] at h; cases h
        · rw [xfer_of_answer hl] at h
          exact .inl ⟨rx, rfl, ho, rfl, rfl, by cases h; rfl⟩
      | poll =>
        simp only [he, pollStep] at h
        rcases hl : linkReturns Config.fillerTx s with _ | rx
        · rw [xfer_of_silence hl] at h; cases h
        · rw [xfer_of_answer hl] at h
          refine .inr ⟨rx, rfl, ho, rfl, hl, ?_⟩
          cases hn : notYetAnswered rx <;> simp only [hn] at h <;> cases h
          · exact .inr ⟨rfl, rfl⟩
          · exact .inl ⟨rfl, rfl⟩
    · simp only [execAssign, hs] at h
      rw [if_neg hp] at h
      cases h

/-- Everything SETDEBUG can do. -/
theorem execSetDebug_cases {level : Byte} {d : Half} {s t : State} (h : execSetDebug level d s = .next t) :
    s.hstate = .idle ∧ t = endCommand true 0x00 0x00 { accept 7 level d s with debugLevel := level } := by
  cases hs : s.hstate <;> simp only [execSetDebug, hs] at h <;> cases h
  exact ⟨rfl, rfl⟩

/-- Everything BUSRESET can do. -/
theorem execBusReset_cases {a : Byte} {d : Half} {s t : State} (h : execBusReset a d s = .next t) :
    s.hstate = .idle ∧ t = endCommand true 0x00 0x00 { busResetEvent s with numValid := false } := by
  cases hs : s.hstate <;> simp only [execBusReset, hs] at h <;> cases h
  exact ⟨rfl, rfl⟩

/-- Every request a command sends begins with the sync byte (R91). -/
theorem requestOfControl_header0 {s : State} {f : Frame} (h : requestOfControl s = some f) :
    f.header0 = Config.syncByte := by
  unfold requestOfControl at h
  split at h <;> first | (injection h with h; rw [← h]; rfl) | cases h

/-- Inside an exchange, a step of a busy engine is a transfer of that exchange (R24, R166). -/
theorem step_transfer {s u : State} (hi : ControlInv s) (hr : s.rst = false) (hx : s.xph ≠ .idle)
    (he : execExchange s = .next u) (hu : u.xph ≠ .idle) : step s = .next u := by
  have hb : s.hstate = .busy := by
    cases hs : s.hstate
    · exact absurd (hi.idleQuiet hs).1 hx
    · rfl
  have hp : ∀ build resume, drivePair build resume s = .next u := fun build resume => by
    rw [drivePair_transfer hx he, if_neg hu]
  have hq : (requestOfControl s).isSome := by rw [hi.requestStable hx]; rfl
  have hc : ∀ n : BitVec 3, s.curOp.toNat = n.toNat → s.curOp = n := fun n h => BitVec.eq_of_toNat_eq h
  have h8 : s.curOp.toNat < 8 := s.curOp.isLt
  simp only [step, hr, fetch_busy hb, decodeCommand_latchedWord]
  simp only [requestOfControl] at hq
  generalize hn : s.curOp.toNat = n at *
  interval_cases n
  · simp at hq
  · simp at hq
  · exact (deviceOp_busy hb (hc 2 rfl) rfl rfl).trans (hp _ _)
  · exact (deviceOp_busy hb (hc 3 rfl) rfl rfl).trans (hp _ _)
  · exact (deviceOp_busy hb (hc 4 rfl) rfl rfl).trans (hp _ _)
  · exact (deviceOp_busy hb (hc 5 rfl) rfl rfl).trans (hp _ _)
  · exact (deviceOp_busy hb (hc 6 rfl) rfl rfl).trans (hp _ _)
  · simp at hq

/-! ## Runs -/

theorem steps_succ {s t : State} (h : step s = .next t) (k : Nat) : steps (k + 1) s = steps k t := by
  simp [steps, h]

/-- Runs compose. -/
theorem steps_add {s t : State} {m : Nat} (h : steps m s = .next t) (n : Nat) : steps (m + n) s = steps n t := by
  induction m generalizing s with
  | zero => cases h; simp
  | succ m ih =>
    rw [Nat.succ_add]
    simp only [steps] at h ⊢
    cases hs : step s with
    | next u => rw [hs] at h; exact ih h
    | fault r => rw [hs] at h; cases h
    | refused r => rw [hs] at h; cases h

/-- Runs of one instruction compose. -/
theorem execTimes_add {i : Instr} {s t : State} {m : Nat} (h : execTimes i m s = .next t) (n : Nat) :
    execTimes i (m + n) s = execTimes i n t := by
  induction m generalizing s with
  | zero => cases h; simp
  | succ m ih =>
    rw [Nat.succ_add]
    simp only [execTimes] at h ⊢
    cases hs : exec i s with
    | next u => rw [hs] at h; exact ih h
    | fault r => rw [hs] at h; cases h
    | refused r => rw [hs] at h; cases h

end Sys2Proof.Machine
end

