-- ==== Sys2Proof/Laws/Exchange.lean ====
section
/-!
SUPPORT. The states an exchange passes through, and what a run of transfers is inside a device operation.
-/

namespace Sys2Proof.Machine

/-! ## What one step of EXCHANGE can write -/

theorem settleExchange_only (s : State) :
    settleExchange s = { s with success := (settleExchange s).success, xph := (settleExchange s).xph } := by
  unfold settleExchange; split_ifs <;> rfl

/-- One step of EXCHANGE leaves the host's side, the latches, the session and REQ alone (R150). -/
theorem execExchange_only {s t : State} (h : execExchange s = .next t) :
    t = { s with
      reply := t.reply, txi := t.txi, rxn := t.rxn, sync := t.sync, xph := t.xph, success := t.success
      script := t.script, wire := t.wire, trace := t.trace, traceDraws := t.traceDraws } := by
  rcases execExchange_cases h with ⟨-, rfl⟩ | ⟨tx, rx, -, -, -, hc⟩
  · conv_lhs => rw [startExchange_only]
    simp
  · by_cases hq : s.xph = .req <;> rcases hc with ⟨-, rfl⟩ | ⟨r, -, -, rfl⟩ <;>
    · conv_lhs => rw [settleExchange_only]
      first
      | (rw [transferred_of_req hq]; simp)
      | (rw [transferred_of_fill hq]; simp)

/-! ## The state after some transfers -/

/-- The byte of transfer `n` of an exchange of `req`: a request byte, then fillers (R152, R157). -/
def sentAt (req : Frame) (n : Nat) : Byte := (req.bytes[n]?).getD Config.fillerTx

/-- The transfers of an exchange of `req` that has received `rxs`. -/
def sentEvents (req : Frame) (rxs : List Byte) : List WireEvent := rxs.mapIdx fun n rx => .xfer (sentAt req n) rx

theorem sentEvents_concat (req : Frame) (rxs : List Byte) (b : Byte) :
    sentEvents req (rxs ++ [b]) = sentEvents req rxs ++ [.xfer (sentAt req rxs.length) b] := by
  simp [sentEvents, List.mapIdx_concat]

theorem exchangeEvents_eq_sentEvents (req : Frame) (rxs : List Byte) (h : 6 ≤ rxs.length) :
    exchangeEvents req rxs = sentEvents req rxs := by
  apply List.ext_getElem
  · simp [exchangeEvents, sentEvents, Frame.bytes]; omega
  · intro i _ h2
    have hi : i < rxs.length := by simpa [sentEvents] using h2
    simp only [exchangeEvents, sentEvents, List.getElem_zipWith, List.getElem_mapIdx, sentAt, List.getElem_append]
    by_cases h6 : i < req.bytes.length <;> simp [h6]

/-- `s` in an exchange that has received `rxs`, accepted `n` bytes of them into `reply`, and has `rest` to come. -/
def midExchange (s : State) (rxs : List Byte) (reply : Frame) (n : BitVec 3) (sync : SyncState) (rest : List Byte)
    (tr : List TraceEvent) (td : Nat) : State :=
  { s with
    txi := BitVec.ofNat 3 (min rxs.length 6), xph := if rxs.length < 6 then .req else .fill
    reply := reply, rxn := n, sync := sync, script := rest, wire := s.wire ++ sentEvents s.req rxs
    trace := tr, traceDraws := td }

section
variable {s : State} {rxs : List Byte} {reply r : Frame} {n : BitVec 3} {sync : SyncState} {b : Byte} {rest : List Byte}
  {tr : List TraceEvent} {td : Nat}

theorem midExchange_running : (midExchange s rxs reply n sync rest tr td).xph ≠ .idle := by
  unfold midExchange; dsimp only; split_ifs <;> simp

theorem byteToSend_midExchange :
    byteToSend (midExchange s rxs reply n sync rest tr td) = some (sentAt s.req rxs.length) := by
  unfold byteToSend midExchange
  dsimp only
  by_cases h : rxs.length < 6
  · have h6 : min rxs.length 6 = rxs.length := by omega
    have h8 : rxs.length % 8 = rxs.length := by omega
    have hl : rxs.length < s.req.bytes.length := by simpa [Frame.bytes] using h
    simp only [h, if_true, h6, Frame.get?_eq_bytes]
    simp [h8, sentAt, hl]
  · simp [h, sentAt, Config.fillerTx, Frame.bytes]

theorem isFirstTransfer_midExchange :
    isFirstTransfer (midExchange s rxs reply n sync rest tr td) = decide (rxs.length = 0) := by
  unfold isFirstTransfer midExchange; dsimp only
  by_cases h : rxs.length < 6
  · have h6 : min rxs.length 6 = rxs.length := by omega
    simp only [h, if_true, h6]
    generalize rxs.length = k at *
    interval_cases k <;> decide
  · have h0 : rxs.length ≠ 0 := by omega
    simp [h, h0]

/-- After a transfer that leaves room in the reply, the exchange is in the next such state. -/
theorem settleExchange_midExchange (r' : Frame) (n' : BitVec 3) (sync' : SyncState) (tr' : List TraceEvent) (td' : Nat)
    (hn : n' ≠ 6) :
    settleExchange { transferred (sentAt s.req rxs.length) b (midExchange s rxs reply n sync (b :: rest) tr td) with
        reply := r', rxn := n', sync := sync', trace := tr', traceDraws := td' } =
      midExchange s (rxs ++ [b]) r' n' sync' rest tr' td' := by
  by_cases h : rxs.length < 6
  · have hx : (midExchange s rxs reply n sync (b :: rest) tr td).xph = .req := by simp [midExchange, h]
    have h1 : min rxs.length 6 = rxs.length := by omega
    rw [transferred_of_req hx]
    by_cases h5 : rxs.length = 5
    · rw [settleExchange_phaseEnd hn (by simp [midExchange, h]) (by simp [midExchange, h5])]
      simp only [midExchange, sentEvents_concat, h5, List.length_append]
      simp
    · rw [settleExchange_goesOn hn (by
        rintro ⟨-, ht⟩
        have := congrArg BitVec.toNat ht
        simp [midExchange, h1] at this; omega)]
      have h6 : rxs.length + 1 < 6 := by omega
      simp only [midExchange, sentEvents_concat, List.length_append]
      simp [h, h6, h1, BitVec.ofNat_add]
  · have hx : (midExchange s rxs reply n sync (b :: rest) tr td).xph ≠ .req := by simp [midExchange, h]
    have h1 : min rxs.length 6 = 6 := by omega
    have h2 : min (rxs.length + 1) 6 = 6 := by omega
    have h3 : ¬rxs.length + 1 < 6 := by omega
    rw [transferred_of_fill hx, settleExchange_goesOn hn (by simp [midExchange, h])]
    simp only [midExchange, sentEvents_concat, List.length_append]
    simp [h, h1, h2, h3]

/-- A discarded byte (R153, R154). -/
theorem execExchange_mid_discard (h : rxs.length = 0 ∨ b ≠ 0xFF) :
    ∃ tr' td', execExchange (midExchange s rxs reply 0 .seeking (b :: rest) tr td) =
      .next (midExchange s (rxs ++ [b]) reply 0 .seeking rest tr' td') := by
  have h1 := execExchange_discard (s := midExchange s rxs reply 0 .seeking (b :: rest) tr td) midExchange_running
    byteToSend_midExchange (linkReturns_cons rfl _) (by
      rw [isFirstTransfer_midExchange]
      rcases h with h | h
      · simp [acceptsByte, h]
      · have : (b == Config.syncByte) = false := by simpa [Config.syncByte] using h
        simp [acceptsByte, this, midExchange])
  have h2 := settleExchange_midExchange (s := s) (rxs := rxs) (reply := reply) (n := 0) (sync := .seeking) (b := b)
    (rest := rest) (tr := tr) (td := td) reply 0 .seeking (transferred (sentAt s.req rxs.length) b
      (midExchange s rxs reply 0 .seeking (b :: rest) tr td)).trace (transferred (sentAt s.req rxs.length) b
      (midExchange s rxs reply 0 .seeking (b :: rest) tr td)).traceDraws (by decide)
  refine ⟨_, _, h1.trans (congrArg _ (Eq.trans (congrArg _ ?_) h2))⟩
  have eta : ∀ {u : State}, u.reply = reply → u.rxn = 0 → u.sync = .seeking → u = { u with
      reply := reply, rxn := 0, sync := .seeking, trace := u.trace, traceDraws := u.traceDraws } := by
    intro u e1 e2 e3; rw [← e1, ← e2, ← e3]
  exact eta (by simp [midExchange]) (by simp [midExchange]) (by simp [midExchange])

/-- An accepted byte that leaves room (R155). -/
theorem execExchange_mid_accept {n' : BitVec 3} (h0 : rxs.length ≠ 0) (h : sync = .accepting ∨ b = 0xFF)
    (hr : reply.set? n.toNat b = some r) (hn : n + 1 = n') (h6 : n' ≠ 6) :
    ∃ tr' td', execExchange (midExchange s rxs reply n sync (b :: rest) tr td) =
      .next (midExchange s (rxs ++ [b]) r n' .accepting rest tr' td') := by
  have h1 := execExchange_accept (s := midExchange s rxs reply n sync (b :: rest) tr td) midExchange_running
    byteToSend_midExchange (linkReturns_cons rfl _) (by
      rw [isFirstTransfer_midExchange]
      rcases h with h | h
      · simp [acceptsByte, h0, midExchange, h]
      · simp [acceptsByte, h0, h, Config.syncByte]) hr
  subst hn
  have h2 := settleExchange_midExchange (s := s) (rxs := rxs) (reply := reply) (n := n) (sync := sync) (b := b)
    (rest := rest) (tr := tr) (td := td) r (n + 1) .accepting (transferred (sentAt s.req rxs.length) b
      (midExchange s rxs reply n sync (b :: rest) tr td)).trace (transferred (sentAt s.req rxs.length) b
      (midExchange s rxs reply n sync (b :: rest) tr td)).traceDraws h6
  exact ⟨_, _, h1.trans (congrArg _ h2)⟩

/-- The sixth accepted byte, which ends the exchange (R158, R162). -/
theorem execExchange_mid_end (h6 : 6 ≤ rxs.length) :
    ∃ tr' td', execExchange (midExchange s rxs reply 5 .accepting (b :: rest) tr td) =
      .next { exchangeEnd { reply with payload1 := b } (sentEvents s.req (rxs ++ [b])) rest s with
        trace := tr', traceDraws := td' } := by
  have h0 : rxs.length ≠ 0 := by omega
  have h1 := execExchange_accept (s := midExchange s rxs reply 5 .accepting (b :: rest) tr td) midExchange_running
    byteToSend_midExchange (linkReturns_cons rfl _)
    (by rw [isFirstTransfer_midExchange]; simp [acceptsByte, h0, midExchange])
    (r := { reply with payload1 := b }) (by rfl)
  have hx : (midExchange s rxs reply 5 .accepting (b :: rest) tr td).xph ≠ .req := by simp [midExchange]; omega
  rw [settleExchange_full (by rfl), transferred_of_fill hx] at h1
  generalize (transferred (sentAt s.req rxs.length) b (midExchange s rxs reply 5 .accepting (b :: rest) tr td)).trace = A,
    (transferred (sentAt s.req rxs.length) b (midExchange s rxs reply 5 .accepting (b :: rest) tr td)).traceDraws = B at h1
  refine ⟨A, B, h1.trans ?_⟩
  have hmin : min rxs.length 6 = 6 := by omega
  simp only [midExchange, exchangeEnd, sentEvents_concat]
  simp [hmin]

end

theorem execExchange_start {s : State} (hx : s.xph = .idle) :
    ∃ tr td, execExchange s = .next (midExchange s [] Frame.zero 0 .seeking s.script tr td) := by
  refine ⟨(startExchange s).trace, (startExchange s).traceDraws, (execExchange_idle hx).trans ?_⟩
  rw [startExchange_only]
  simp [midExchange, sentEvents]

/-! ## Runs of transfers -/

/-- `k` transfers of one exchange take `s` to `t`; every state before `t` is inside the exchange. -/
inductive Transfers : Nat → State → State → Prop
  | one {s t : State} : s.xph ≠ .idle → execExchange s = .next t → Transfers 1 s t
  | more {s m t : State} {k : Nat} :
    s.xph ≠ .idle → execExchange s = .next m → Transfers k m t → Transfers (k + 1) s t

theorem Transfers.running {k : Nat} {s t : State} (h : Transfers k s t) : s.xph ≠ .idle := by
  cases h <;> assumption

theorem Transfers.execTimes {k : Nat} {s t : State} (h : Transfers k s t) : execTimes .exchange k s = .next t := by
  induction h with
  | one _ he => simp [Machine.execTimes, exec, he]
  | more _ he _ ih => simpa [Machine.execTimes, exec, he] using ih

/-- Padding without the sync byte is discarded (R154). -/
theorem Transfers.pad {s : State} {reply : Frame} {rest : List Byte} {k : Nat} (P : State → Prop) (pad : List Byte)
    (hp : noSync pad) :
    ∀ (rxs : List Byte) (tr : List TraceEvent) (td : Nat), rxs.length ≠ 0 →
      (∀ tr' td', ∃ u, P u ∧ Transfers k (midExchange s (rxs ++ pad) reply 0 .seeking rest tr' td') u) →
      ∃ u, P u ∧ Transfers (pad.length + k) (midExchange s rxs reply 0 .seeking (pad ++ rest) tr td) u := by
  induction pad with
  | nil => intro rxs tr td _ h; simpa using h tr td
  | cons b pad ih =>
    intro rxs tr td _ h
    obtain ⟨tr1, td1, h1⟩ := execExchange_mid_discard (s := s) (rxs := rxs) (reply := reply) (rest := pad ++ rest)
      (tr := tr) (td := td) (.inr (hp b (by simp)))
    obtain ⟨u, hu, h2⟩ := ih (fun x hx => hp x (by simp [hx])) (rxs ++ [b]) tr1 td1 (by simp) (by simpa using h)
    refine ⟨u, hu, ?_⟩
    rw [List.length_cons, show pad.length + 1 + k = pad.length + k + 1 by omega]
    exact .more midExchange_running h1 h2

/-- Six bytes that begin with the sync byte are the reply (R155, R158). -/
theorem Transfers.frame (s : State) (pre : List Byte) (hpre : pre.length ≠ 0) (r1 r2 r3 r4 r5 : Byte) (rest : List Byte)
    (tr : List TraceEvent) (td : Nat) :
    ∃ tr' td', Transfers 6
      (midExchange s pre Frame.zero 0 .seeking (Config.syncByte :: r1 :: r2 :: r3 :: r4 :: r5 :: rest) tr td)
      { exchangeEnd ⟨Config.syncByte, r1, r2, r3, r4, r5⟩
          (sentEvents s.req (pre ++ [Config.syncByte] ++ [r1] ++ [r2] ++ [r3] ++ [r4] ++ [r5])) rest s with
        trace := tr', traceDraws := td' } := by
  obtain ⟨tr1, td1, h1⟩ := execExchange_mid_accept (s := s) (rest := r1 :: r2 :: r3 :: r4 :: r5 :: rest) (tr := tr) (td := td)
    (sync := .seeking) (b := Config.syncByte) (n := 0) (n' := 1) (reply := Frame.zero)
    (r := ⟨Config.syncByte, 0x00, 0x00, 0x00, 0x00, 0x00⟩) hpre (.inr rfl) rfl rfl (by decide)
  obtain ⟨tr2, td2, h2⟩ := execExchange_mid_accept (s := s) (rxs := pre ++ [Config.syncByte]) (rest := r2 :: r3 :: r4 :: r5 :: rest)
    (tr := tr1) (td := td1) (sync := .accepting) (b := r1) (n := 1) (n' := 2)
    (reply := ⟨Config.syncByte, 0x00, 0x00, 0x00, 0x00, 0x00⟩) (r := ⟨Config.syncByte, r1, 0x00, 0x00, 0x00, 0x00⟩)
    (by simp) (.inl rfl) rfl rfl (by decide)
  obtain ⟨tr3, td3, h3⟩ := execExchange_mid_accept (s := s) (rxs := pre ++ [Config.syncByte] ++ [r1]) (rest := r3 :: r4 :: r5 :: rest)
    (tr := tr2) (td := td2) (sync := .accepting) (b := r2) (n := 2) (n' := 3)
    (reply := ⟨Config.syncByte, r1, 0x00, 0x00, 0x00, 0x00⟩) (r := ⟨Config.syncByte, r1, r2, 0x00, 0x00, 0x00⟩)
    (by simp) (.inl rfl) rfl rfl (by decide)
  obtain ⟨tr4, td4, h4⟩ := execExchange_mid_accept (s := s) (rxs := pre ++ [Config.syncByte] ++ [r1] ++ [r2]) (rest := r4 :: r5 :: rest)
    (tr := tr3) (td := td3) (sync := .accepting) (b := r3) (n := 3) (n' := 4)
    (reply := ⟨Config.syncByte, r1, r2, 0x00, 0x00, 0x00⟩) (r := ⟨Config.syncByte, r1, r2, r3, 0x00, 0x00⟩)
    (by simp) (.inl rfl) rfl rfl (by decide)
  obtain ⟨tr5, td5, h5⟩ := execExchange_mid_accept (s := s) (rxs := pre ++ [Config.syncByte] ++ [r1] ++ [r2] ++ [r3]) (rest := r5 :: rest)
    (tr := tr4) (td := td4) (sync := .accepting) (b := r4) (n := 4) (n' := 5)
    (reply := ⟨Config.syncByte, r1, r2, r3, 0x00, 0x00⟩) (r := ⟨Config.syncByte, r1, r2, r3, r4, 0x00⟩)
    (by simp) (.inl rfl) rfl rfl (by decide)
  obtain ⟨tr6, td6, h6⟩ := execExchange_mid_end (s := s) (rxs := pre ++ [Config.syncByte] ++ [r1] ++ [r2] ++ [r3] ++ [r4]) (rest := rest)
    (tr := tr5) (td := td5) (b := r5) (reply := ⟨Config.syncByte, r1, r2, r3, r4, 0x00⟩) (by simp; omega)
  exact ⟨tr6, td6, .more midExchange_running h1 (.more midExchange_running h2 (.more midExchange_running h3
    (.more midExchange_running h4 (.more midExchange_running h5 (.one midExchange_running h6)))))⟩

/-- A run of transfers inside a device operation: the sequencer does nothing until the exchange returns (R166, R210). -/
theorem Transfers.steps {k : Nat} {s t r : State} (h : Transfers k s t) {i : Instr} {op : BitVec 3} {a : Byte} {d : Half}
    {begin : State → State} {build resume : State → Result}
    (hop : ∀ u, exec i u = deviceOp op a d begin build resume u)
    (hdec : ∀ u : State, u.curOp = op → u.opAddr = a → u.opDur = d → decodeCommand (latchedWord u) = .instr i)
    (hi : t.xph = .idle) (hr : resume t = .next r) :
    s.rst = false → s.hstate = .busy → s.curOp = op → s.opAddr = a → s.opDur = d → steps k s = .next r := by
  have one : ∀ u : State, u.rst = false → u.hstate = .busy → u.curOp = op → u.opAddr = a → u.opDur = d →
      step u = drivePair build resume u := by
    intro u h1 h2 h3 h4 h5
    rw [← deviceOp_busy h2 h3 h4 h5 (begin := begin), ← hop]
    simp [step, h1, fetch_busy h2, hdec u h3 h4 h5]
  induction h with
  | one hx he =>
    intro h1 h2 h3 h4 h5
    simp [Machine.steps, one _ h1 h2 h3 h4 h5, drivePair_transfer hx he, hi, hr]
  | more hx he hc ih =>
    intro h1 h2 h3 h4 h5
    have e := execExchange_only he
    rw [steps_succ ((one _ h1 h2 h3 h4 h5).trans ((drivePair_transfer hx he).trans (if_neg hc.running)))]
    exact ih hi hr (by rw [e]; exact h1) (by rw [e]; exact h2) (by rw [e]; exact h3) (by rw [e]; exact h4) (by rw [e]; exact h5)

end Sys2Proof.Machine
end

