-- ==== Sys2Proof/Laws/PerInstr.lean ====
section
/-!
SUPPORT. The statement family made once per instruction: the form of its encoding.
-/

namespace Sys2Proof.Laws.EncodingForm

/-- A command word has an allocated code (R102); a frame starts with the sync marker (R91). -/
def shape : Encoding → Prop
  | .command w => (wordOp w).toNat < 8
  | .frame f => f.header0 = Config.syncByte ∧ f.header1 = Config.syncByte

/-- An instruction has an encoding exactly when it is no micro-operation (R104), and the encoding has its form. -/
def Statement (i : Instr) : Prop :=
  ∀ p : Params, (encode p i).isSome = i.encodable ∧ ∀ e, encode p i = some e → shape e

/-- A request frame has the form, whatever its kind and payload. -/
theorem of_frame {i : Instr} (he : i.encodable = true)
    (h : ∀ p, ∃ kind addr p0 p1, encode p i = some (.frame (requestFrame p kind addr p0 p1))) : Statement i := by
  intro p
  obtain ⟨kind, addr, p0, p1, hp⟩ := h p
  exact ⟨by rw [hp, he]; rfl, fun e h => by rw [hp] at h; cases h; exact ⟨rfl, rfl⟩⟩

/-- A command word with an allocated code has the form. -/
theorem of_command {i : Instr} (he : i.encodable = true)
    (h : ∃ op a d, op.toNat < 8 ∧ ∀ p, encode p i = some (.command (commandWord op a d))) : Statement i := by
  intro p
  obtain ⟨op, a, d, ho, hp⟩ := h
  exact ⟨by rw [hp, he]; rfl, fun e h => by rw [hp] at h; cases h; simpa [shape] using ho⟩

/-- A micro-operation has no encoding. -/
theorem of_none {i : Instr} (he : i.encodable = false) (h : ∀ p, encode p i = none) : Statement i :=
  fun p => ⟨by rw [h, he]; rfl, fun e h' => by rw [h] at h'; cases h'⟩

theorem reqStart (addr : Byte) : Statement (.reqStart addr) := of_frame rfl fun _ => ⟨_, _, _, _, rfl⟩
theorem reqStop (addr : Byte) : Statement (.reqStop addr) := of_frame rfl fun _ => ⟨_, _, _, _, rfl⟩
theorem reqDispense (addr : Byte) (duration : Half) : Statement (.reqDispense addr duration) :=
  of_frame rfl fun _ => ⟨_, _, _, _, rfl⟩
theorem reqCheck (addr : Byte) : Statement (.reqCheck addr) := of_frame rfl fun _ => ⟨_, _, _, _, rfl⟩
theorem reqGetState (addr : Byte) : Statement (.reqGetState addr) := of_frame rfl fun _ => ⟨_, _, _, _, rfl⟩
theorem reqResponse (addr : Byte) : Statement (.reqResponse addr) := of_frame rfl fun _ => ⟨_, _, _, _, rfl⟩
theorem busReset (a : Byte) (d : Half) : Statement (.busReset a d) :=
  of_command rfl ⟨_, _, _, by decide, fun _ => rfl⟩
theorem assign (a : Byte) (d : Half) : Statement (.assign a d) := of_command rfl ⟨_, _, _, by decide, fun _ => rfl⟩
theorem turnOn (addr : Byte) (d : Half) : Statement (.turnOn addr d) :=
  of_command rfl ⟨_, _, _, by decide, fun _ => rfl⟩
theorem turnOff (addr : Byte) (d : Half) : Statement (.turnOff addr d) :=
  of_command rfl ⟨_, _, _, by decide, fun _ => rfl⟩
theorem dispense (addr : Byte) (duration : Half) : Statement (.dispense addr duration) :=
  of_command rfl ⟨_, _, _, by decide, fun _ => rfl⟩
theorem checkAll (count : Byte) (d : Half) : Statement (.checkAll count d) :=
  of_command rfl ⟨_, _, _, by decide, fun _ => rfl⟩
theorem getState (addr : Byte) (d : Half) : Statement (.getState addr d) :=
  of_command rfl ⟨_, _, _, by decide, fun _ => rfl⟩
theorem setDebug (level : Byte) (d : Half) : Statement (.setDebug level d) :=
  of_command rfl ⟨_, _, _, by decide, fun _ => rfl⟩
theorem build (kind : Kind) (addr p0 p1 : Byte) : Statement (.build kind addr p0 p1) := of_none rfl fun _ => rfl
theorem exchange : Statement .exchange := of_none rfl fun _ => rfl

end Sys2Proof.Laws.EncodingForm
end

