-- ==== Sys2Proof/Tests/Slice0.lean ====
section
/-!
SUPPORT. Tests: expected values are those of spec/95_test_vectors.md, or worked out by hand from the rule cited; and one
witness per statement that has hypotheses.
-/

namespace Sys2Proof.Tests

open Sys2Proof Sys2Proof.Machine

/-! ## Small states -/

/-- An idle engine that is offered one word. -/
def offered (w : Word32) (script : List Byte) : State := { State.reset with cmds := [w], script := script }

/-- An engine in an exchange of `req`. -/
def exchanging (req reply : Frame) (xph : XPhase) (txi rxn : BitVec 3) (sync : SyncState) (script : List Byte) : State :=
  { State.reset with
    hstate := .busy, curOp := 2, opAddr := req.address, seq := .cmd
    req := req, reply := reply, xph := xph, txi := txi, rxn := rxn, sync := sync, script := script }

/-- A device operation at the last transfer of an exchange. -/
def lastTransfer (op : BitVec 3) (seq : SeqPhase) (opA scanA : Byte) (d : Half) (req reply : Frame) (rx : Byte) : State :=
  { exchanging req reply .fill 6 5 .accepting [rx] with
    curOp := op, seq := seq, opAddr := opA, opDur := d, scanAddr := scanA }

/-- A device operation between exchanges. -/
def betweenExchanges (op : BitVec 3) (seq : SeqPhase) (a : Byte) (d : Half) : State :=
  { State.reset with hstate := .busy, curOp := op, opAddr := a, opDur := d, scanAddr := a, seq := seq }

/-- An ASSIGN under way. -/
def assigning (e : EState) (script : List Byte) : State :=
  { State.reset with hstate := .busy, curOp := 1, estate := e, script := script }

/-- The results an answer leaves, with whether the engine is busy. -/
def resultOf (r : Result) : Option (HState × Bool × Byte × Byte) :=
  (nextOf r).map fun t => (t.hstate, t.resOk, t.resA, t.resB)

/-- REQ after an answer. -/
def reqOf (r : Result) : Option Frame := (nextOf r).map State.req

/-- The wire after an answer. -/
def wireOf (r : Result) : Option (List WireEvent) := (nextOf r).map State.wire

/-- START for address 3, the request of the vectors X1 to X10. -/
def start3 : Frame := ⟨0xFF, 0xFF, 0x03, 0x01, 0xA0, 0xA1⟩

/-! ## Well-formedness -/

theorem test_wellFormed_refuses_first_payload : (Instr.build .start 0x03 0x00 0xA1).wellFormed = false := by decide
theorem test_wellFormed_refuses_second_payload : (Instr.build .response 0x03 0xA0 0x00).wellFormed = false := by decide
theorem test_wellFormed_takes_dispense_payload : (Instr.build .dispense 0x03 0xF4 0x01).wellFormed = true := by decide
theorem test_wellFormed_takes_placeholder : (Instr.build .check 0x02 0xA0 0xA1).wellFormed = true := by decide
theorem test_build_not_encodable : (Instr.build .start 0x03 0xA0 0xA1).encodable = false := by decide
theorem test_exchange_not_encodable : Instr.exchange.encodable = false := by decide
theorem test_params_ref : Params.ref.Wf := by decide
theorem test_params_alt : Params.alt.Wf := by decide
theorem test_params_refuses_equal_codes :
    ¬({ Params.ref with typeCodes := { Params.ref.typeCodes with stop := 0x01 } }).Wf := by decide
theorem test_params_refuses_zero_primer : ¬({ Params.ref with primer := 0x00 }).Wf := by decide

/-! ## Decoding: words and frames written out from R90 to R103 -/

/-- Part 6: `op << 24 | a << 16 | d`. -/
theorem test_decode_busReset : decodeCommand 0x00000000 = .instr (.busReset 0x00 0x0000) := by decide
theorem test_decode_assign : decodeCommand 0x01AB1234 = .instr (.assign 0xAB 0x1234) := by decide
theorem test_decode_turnOn : decodeCommand 0x02030000 = .instr (.turnOn 0x03 0x0000) := by decide
theorem test_decode_turnOff : decodeCommand 0x03030000 = .instr (.turnOff 0x03 0x0000) := by decide
theorem test_decode_dispense : decodeCommand 0x040301F4 = .instr (.dispense 0x03 0x01F4) := by decide
theorem test_decode_dispense_max : decodeCommand 0x04FFFFFF = .instr (.dispense 0xFF 0xFFFF) := by decide
theorem test_decode_checkAll : decodeCommand 0x05030000 = .instr (.checkAll 0x03 0x0000) := by decide
theorem test_decode_getState : decodeCommand 0x06010000 = .instr (.getState 0x01 0x0000) := by decide
theorem test_decode_setDebug : decodeCommand 0x07020000 = .instr (.setDebug 0x02 0x0000) := by decide
theorem test_decode_first_reserved : decodeCommand 0x08000000 = .rejected (.reservedOp 0x08) := by decide
theorem test_decode_last_reserved : decodeCommand 0xFF030000 = .rejected (.reservedOp 0xFF) := by decide

/-- Part 2: the frames B1 to B7 in wire order. -/
theorem test_decode_reqStart :
    decodeBytes Params.ref [0xFF, 0xFF, 0x03, 0x01, 0xA0, 0xA1] = .instr (.reqStart 0x03) := by decide
theorem test_decode_reqStop :
    decodeBytes Params.ref [0xFF, 0xFF, 0x03, 0x02, 0xA0, 0xA1] = .instr (.reqStop 0x03) := by decide
theorem test_decode_reqDispense :
    decodeBytes Params.ref [0xFF, 0xFF, 0x03, 0x03, 0xF4, 0x01] = .instr (.reqDispense 0x03 500) := by decide
theorem test_decode_reqDispense_be :
    decodeBytes { Params.ref with durOrder := .be } [0xFF, 0xFF, 0x03, 0x03, 0x01, 0xF4] =
      .instr (.reqDispense 0x03 500) := by decide
theorem test_decode_reqCheck :
    decodeBytes Params.ref [0xFF, 0xFF, 0x02, 0x04, 0xA0, 0xA1] = .instr (.reqCheck 0x02) := by decide
theorem test_decode_reqGetState :
    decodeBytes Params.ref [0xFF, 0xFF, 0x01, 0x05, 0xA0, 0xA1] = .instr (.reqGetState 0x01) := by decide
theorem test_decode_reqResponse :
    decodeBytes Params.ref [0xFF, 0xFF, 0x02, 0x06, 0xA0, 0xA1] = .instr (.reqResponse 0x02) := by decide
theorem test_decode_alt_response :
    decodeBytes Params.alt [0xFF, 0xFF, 0x02, 0x20, 0xA0, 0xA1] = .instr (.reqResponse 0x02) := by decide
theorem test_decode_unknown_type :
    decodeBytes Params.ref [0xFF, 0xFF, 0x02, 0x20, 0xA0, 0xA1] = .rejected (.unknownType 0x20) := by decide
theorem test_decode_bad_header :
    decodeBytes Params.ref [0xFF, 0xFE, 0x03, 0x01, 0xA0, 0xA1] = .rejected (.badHeader 0xFF 0xFE) := by decide
theorem test_decode_bad_length : decodeBytes Params.ref [0xFF, 0xFF, 0x03] = .rejected (.badLength 3) := by decide
theorem test_decode_command_bytes :
    decodeBytes Params.ref [0x04, 0x03, 0x01, 0xF4] = .instr (.dispense 0x03 500) := by decide

/-- R94: a START request carries the placeholder payload, a DISPENSE request any. -/
theorem test_request_match_payload :
    isRequestFrame Params.ref start3 = true ∧ isRequestFrame Params.ref { start3 with payload1 := 0x00 } = false ∧
      isRequestFrame Params.ref ⟨0xFF, 0xFF, 0x01, 0x03, 0x00, 0x01⟩ = true := by decide

/-- B11, B13 and B14: the duration's bytes. -/
theorem test_encode_dispense :
    encode Params.ref (.reqDispense 0x20 65535) = some (.frame ⟨0xFF, 0xFF, 0x20, 0x03, 0xFF, 0xFF⟩) ∧
    encode Params.ref (.reqDispense 0x01 0x0100) = some (.frame ⟨0xFF, 0xFF, 0x01, 0x03, 0x00, 0x01⟩) ∧
    encode { Params.ref with durOrder := .be } (.reqDispense 0x01 0x00FF) =
      some (.frame ⟨0xFF, 0xFF, 0x01, 0x03, 0x00, 0xFF⟩) := by decide
theorem test_encode_command : encode Params.ref (.dispense 0x03 500) = some (.command 0x040301F4) := by decide
theorem test_encode_micro : encode Params.ref .exchange = none ∧ encode Params.ref (.build .stop 1 0xA0 0xA1) = none := by
  decide

/-- The table's numbering: a row's number read as its encoding (R90, R101). -/
theorem test_table_words :
    decodeTableWord 48 0xFFFF0301A0A1 = some (.reqStart 0x03) ∧ decodeTableWord 48 0xFFFF0303F401 = some (.reqDispense 0x03 500) ∧
      decodeTableWord 32 0x05030000 = some (.checkAll 0x03 0) ∧ decodeTableWord 32 0x08000000 = none ∧
      decodeTableWord 0 0 = none := by decide

/-! ## A placed instruction is the one the next step runs -/

theorem test_placed_commands :
    nextOf (step (State.reset.withFetchWord 32 0x00000000)) = nextOf (exec (.busReset 0x00 0) State.reset) ∧
    nextOf (step (State.reset.withFetchWord 32 0x01000000)) = nextOf (exec (.assign 0x00 0) State.reset) ∧
    nextOf (step (State.reset.withFetchWord 32 0x02030000)) = nextOf (exec (.turnOn 0x03 0) State.reset) ∧
    nextOf (step (State.reset.withFetchWord 32 0x03030000)) = nextOf (exec (.turnOff 0x03 0) State.reset) := by decide
theorem test_placed_commands_more :
    nextOf (step (State.reset.withFetchWord 32 0x040301F4)) = nextOf (exec (.dispense 0x03 500) State.reset) ∧
    nextOf (step (State.reset.withFetchWord 32 0x05030000)) = nextOf (exec (.checkAll 0x03 0) State.reset) ∧
    nextOf (step (State.reset.withFetchWord 32 0x06010000)) = nextOf (exec (.getState 0x01 0) State.reset) ∧
    nextOf (step (State.reset.withFetchWord 32 0x07020000)) = nextOf (exec (.setDebug 0x02 0) State.reset) := by decide
theorem test_placed_reserved : refusalOf (step (State.reset.withFetchWord 32 0x08000000)) =
    some (.notAccepted (.reservedOp 0x08)) := by decide
theorem test_placed_reqStart : reqOf (step (State.reset.withFetchWord 48 0xFFFF0301A0A1)) = some start3 := by decide
theorem test_placed_reqStop : reqOf (step (State.reset.withFetchWord 48 0xFFFF0302A0A1)) =
    some ⟨0xFF, 0xFF, 0x03, 0x02, 0xA0, 0xA1⟩ := by decide
theorem test_placed_reqDispense : reqOf (step (State.reset.withFetchWord 48 0xFFFF0303F401)) =
    some ⟨0xFF, 0xFF, 0x03, 0x03, 0xF4, 0x01⟩ := by decide
theorem test_placed_reqCheck : reqOf (step (State.reset.withFetchWord 48 0xFFFF0204A0A1)) =
    some ⟨0xFF, 0xFF, 0x02, 0x04, 0xA0, 0xA1⟩ := by decide
theorem test_placed_reqGetState : reqOf (step (State.reset.withFetchWord 48 0xFFFF0105A0A1)) =
    some ⟨0xFF, 0xFF, 0x01, 0x05, 0xA0, 0xA1⟩ := by decide
theorem test_placed_reqResponse : reqOf (step (State.reset.withFetchWord 48 0xFFFF0206A0A1)) =
    some ⟨0xFF, 0xFF, 0x02, 0x06, 0xA0, 0xA1⟩ := by decide

/-! ## One step of each instruction -/

/-- B1 and B15. -/
theorem test_build : reqOf (exec (.build .start 0x03 0xA0 0xA1) State.reset) = some start3 := by decide
theorem test_build_alt : reqOf (exec (.build .start 0x03 0xA0 0xA1) { State.reset with params := Params.alt }) =
    some ⟨0xFF, 0xFF, 0x03, 0x10, 0xA0, 0xA1⟩ := by decide
/-- B8 and B9. -/
theorem test_reqStart_zero : reqOf (exec (.reqStart 0x00) State.reset) = some ⟨0xFF, 0xFF, 0x00, 0x01, 0xA0, 0xA1⟩ := by
  decide
theorem test_reqStart_max : reqOf (exec (.reqStart 0xFF) State.reset) = some ⟨0xFF, 0xFF, 0xFF, 0x01, 0xA0, 0xA1⟩ := by
  decide
/-- B2. -/
theorem test_reqStop : reqOf (exec (.reqStop 0x03) State.reset) = some ⟨0xFF, 0xFF, 0x03, 0x02, 0xA0, 0xA1⟩ := by decide
/-- B3 and B4. -/
theorem test_reqDispense : reqOf (exec (.reqDispense 0x03 500) State.reset) =
    some ⟨0xFF, 0xFF, 0x03, 0x03, 0xF4, 0x01⟩ := by decide
theorem test_reqDispense_be :
    reqOf (exec (.reqDispense 0x03 500) { State.reset with params := { Params.ref with durOrder := .be } }) =
      some ⟨0xFF, 0xFF, 0x03, 0x03, 0x01, 0xF4⟩ := by decide
/-- B5, B6 and B7. -/
theorem test_reqCheck : reqOf (exec (.reqCheck 0x02) State.reset) = some ⟨0xFF, 0xFF, 0x02, 0x04, 0xA0, 0xA1⟩ := by decide
theorem test_reqGetState : reqOf (exec (.reqGetState 0x01) State.reset) = some ⟨0xFF, 0xFF, 0x01, 0x05, 0xA0, 0xA1⟩ := by
  decide
theorem test_reqResponse : reqOf (exec (.reqResponse 0x02) State.reset) = some ⟨0xFF, 0xFF, 0x02, 0x06, 0xA0, 0xA1⟩ := by
  decide

/-- X3, first transfer: 0xFF is discarded and does not end Seeking. -/
theorem test_exchange_first_sync :
    nextOf (exec .exchange (exchanging start3 Frame.zero .req 0 0 .seeking [0xFF, 0x00])) =
      some { exchanging start3 Frame.zero .req 1 0 .seeking [0x00] with wire := [.xfer 0xFF 0xFF] } := by decide
/-- X2, step 5: the sixth request byte, and the third reply byte. -/
theorem test_exchange_phase_end :
    nextOf (exec .exchange (exchanging start3 ⟨0xFF, 0xFF, 0, 0, 0, 0⟩ .req 5 2 .accepting [0x03])) =
      some { exchanging start3 ⟨0xFF, 0xFF, 0x03, 0, 0, 0⟩ .fill 6 3 .accepting [] with wire := [.xfer 0xA1 0x03] } := by
  decide
/-- X10: a RESPONSE-typed reply to a START request gets no exemption. -/
theorem test_exchange_key_is_the_request :
    (nextOf (exec .exchange (exchanging start3 ⟨0xFF, 0xFF, 0x03, 0x06, 0x05, 0⟩ .fill 6 5 .accepting [0x00]))).map State.success =
      some false := by decide
/-- X15 and V5: the exemption follows TYPE_CODE(RESPONSE). -/
theorem test_exchange_exemption :
    (nextOf (exec .exchange (exchanging ⟨0xFF, 0xFF, 0x02, 0x06, 0xA0, 0xA1⟩ ⟨0xFF, 0xFF, 0x02, 0x06, 0xFF, 0⟩ .fill 6 5
      .accepting [0xFF]))).map State.success = some true ∧
    (nextOf (exec .exchange { exchanging ⟨0xFF, 0xFF, 0x02, 0x06, 0xA0, 0xA1⟩ ⟨0xFF, 0xFF, 0x02, 0x06, 0x05, 0⟩ .fill 6 5
      .accepting [0x00] with params := Params.alt })).map State.success = some false := by decide

/-- V4: the primer of CFG_ALT is sent; E8: what it receives is not tested. -/
theorem test_assign_primer :
    nextOf (exec (.assign 0 0) { assigning .primer [0x04] with params := Params.alt }) =
      some { assigning .poll [] with params := Params.alt, wire := [.xfer 0x55 0x04] } := by decide
/-- E5: the largest possible count. -/
theorem test_assign_sentinel : resultOf (exec (.assign 0 0) (assigning .poll [0xFE])) = some (.idle, true, 253, 0) := by
  decide

/-- E6 and E7: the host's test of the count. -/
theorem test_host_accepts_count :
    (nextOf (exec (.assign 0 0) (assigning .poll [0x21]))).map (fun t => (t.numDispensers, hostAcceptsCount t.numDispensers)) =
      some (32, true) ∧
    (nextOf (exec (.assign 0 0) (assigning .poll [0x22]))).map (fun t => (t.numDispensers, hostAcceptsCount t.numDispensers)) =
      some (33, false) := by decide

/-- O1. -/
theorem test_turnOn :
    resultOf (exec (.turnOn 3 0) (lastTransfer 2 .cmd 3 0 0 start3 ⟨0xFF, 0xFF, 0x03, 0x01, 0xA0, 0⟩ 0xA1)) =
      some (.idle, true, 0, 0) := by decide
/-- P3, command 5: offset 5 differs. -/
theorem test_turnOn_error :
    resultOf (exec (.turnOn 1 0) (lastTransfer 2 .cmd 1 0 0 ⟨0xFF, 0xFF, 0x01, 0x01, 0xA0, 0xA1⟩
      ⟨0xFF, 0xFF, 0x01, 0x01, 0xA0, 0⟩ 0x21)) = some (.idle, false, 0, 0) := by decide
/-- O2: the request TURNOFF builds. -/
theorem test_turnOff : reqOf (exec (.turnOff 3 0) (betweenExchanges 3 .cmd 3 0)) =
    some ⟨0xFF, 0xFF, 0x03, 0x02, 0xA0, 0xA1⟩ := by decide
/-- O4: the duration echoed wrong. -/
theorem test_dispense_error :
    resultOf (exec (.dispense 3 500) (lastTransfer 4 .cmd 3 0 500 ⟨0xFF, 0xFF, 0x03, 0x03, 0xF4, 0x01⟩
      ⟨0xFF, 0xFF, 0x03, 0x03, 0xF4, 0⟩ 0x00)) = some (.idle, false, 0, 0) := by decide
/-- O5: device 2 reports 5. -/
theorem test_checkAll_fault :
    resultOf (exec (.checkAll 3 0) (lastTransfer 5 .fetch 3 2 0 ⟨0xFF, 0xFF, 0x02, 0x06, 0xA0, 0xA1⟩
      ⟨0xFF, 0xFF, 0x02, 0x06, 0x05, 0⟩ 0x00)) = some (.idle, true, 2, 5) := by decide
/-- O7: no traffic at all. -/
theorem test_checkAll_none : resultOf (exec (.checkAll 0 0) State.reset) = some (.idle, true, 0, 0) ∧
    wireOf (exec (.checkAll 0 0) State.reset) = some [] := by decide
/-- O14: state 0 is an ordinary value and the reserved byte is never read. -/
theorem test_getState :
    resultOf (exec (.getState 1 0) (lastTransfer 6 .fetch 1 0 0 ⟨0xFF, 0xFF, 0x01, 0x06, 0xA0, 0xA1⟩
      ⟨0xFF, 0xFF, 0x01, 0x06, 0x00, 0⟩ 0x99)) = some (.idle, true, 0, 0) := by decide
/-- O12: the first exchange fails, and RES_B is 0 whatever RES_A is. -/
theorem test_getState_error :
    (nextOf (exec (.getState 1 0) (lastTransfer 6 .cmd 1 0 0 ⟨0xFF, 0xFF, 0x01, 0x05, 0xA0, 0xA1⟩
      ⟨0xFF, 0xFF, 0x01, 0x05, 0xA0, 0⟩ 0x00))).map (fun t => (t.hstate, t.seq, t.resOk, t.resB)) =
      some (.idle, .none, false, 0) := by decide
/-- O16. -/
theorem test_setDebug : (nextOf (exec (.setDebug 2 0) State.reset)).map State.debugLevel = some 2 := by decide
/-- O17. -/
theorem test_busReset :
    (nextOf (exec (.busReset 0 0) { State.reset with numValid := true, numDispensers := 3 })).map
      (fun t => (t.numValid, t.wire)) = some (false, [.busReset]) := by decide
/-- R36, the column "after BUSRESET": the latches of the command before are unchanged, whatever the word's fields. -/
theorem test_busReset_latches :
    (nextOf (exec (.busReset 0x12 0x3456) { State.reset with curOp := 2, opAddr := 0x03, opDur := 0x0001 })).map
      (fun t => (t.curOp, t.opAddr, t.opDur)) = some (2, 0x03, 0x0001) := by decide
/-- T1 and T2: the events of an exchange's start and of its first transfer. -/
theorem test_trace :
    (nextOf (exec .exchange { State.reset with req := start3, debugLevel := 1 })).map State.trace = some [.attempt start3] ∧
    (nextOf (exec .exchange { exchanging start3 Frame.zero .req 0 0 .seeking [0x00] with debugLevel := 2 })).map State.trace =
      some [.byte 0xFF 0x00] ∧
    (nextOf (exec .exchange { exchanging start3 Frame.zero .req 0 0 .seeking [0x00] with debugLevel := 1 })).map State.trace =
      some [] := by decide

/-! ## Witnesses: for each statement with hypotheses, a state and operands that meet them -/

/-- A delivery with one byte of lead, one byte of padding, and the echo of `start3`. -/
def delivery3 : Delivery := ⟨0xFF, [0x00], start3⟩

/-- Half of S7: two slaves, the second of which reports 5. -/
def slaves : List SlaveTurn := [⟨0x00, [], 0x37, [0x12], 0x00, 0x00⟩, ⟨0xFF, [0x00], 0x00, [], 0x05, 0x00⟩]

/-- An exchange that has not found its reply, on a line held at 0x00 (P5). -/
def hanging : State :=
  { exchanging ⟨0xFF, 0xFF, 0x05, 0x01, 0xA0, 0xA1⟩ Frame.zero .fill 6 0 .seeking [] with tail := .repeats 0x00 }

theorem witness_DecodeOfEncode : Params.alt.Wf ∧
    encode Params.alt (.reqDispense 0xFF 0xFFFF) = some (.frame ⟨0xFF, 0xFF, 0xFF, 0x12, 0xFF, 0xFF⟩) ∧
    encode Params.alt (.setDebug 0xFF 0xFFFF) = some (.command 0x07FFFFFF) := by decide

theorem witness_CommandWordsExact : (wordOp 0x07FFFFFF).toNat < 8 ∧ 8 ≤ (wordOp 0x08000000).toNat := by decide

theorem witness_RequestFrameLayout : Params.ref.Wf ∧
    encode Params.ref (.reqDispense 3 500) = some (.frame ⟨0xFF, 0xFF, 0x03, 0x03, 0xF4, 0x01⟩) ∧
    encode Params.ref (.reqResponse 2) = some (.frame ⟨0xFF, 0xFF, 0x02, 0x06, 0xA0, 0xA1⟩) := by decide

theorem witness_LinkAnswers : (offered 0 [0xFF, 0x00]).script = 0xFF :: [0x00] ∧ hanging.script = [] ∧
    hanging.tail = .repeats 0x00 ∧ ({ hanging with tail := .stalled }).tail = .stalled ∧ State.reset.script = [] ∧
    State.reset.tail = .oracle := by decide

theorem witness_ExchangeStarts : ({ State.reset with req := start3 }).xph = .idle := by decide

/-- The first and the last byte of phase 1, and phase 2. -/
theorem witness_ExchangeTransmits :
    (let s := exchanging start3 Frame.zero .req 0 0 .seeking [0x00];
      s.rxn.toNat < 6 ∧ linkReturns 0xFF s = some 0x00 ∧ s.xph = .req ∧ s.req.bytes[s.txi.toNat]? = some 0xFF) ∧
    (let s := exchanging start3 Frame.zero .req 5 0 .seeking [0x00];
      s.rxn.toNat < 6 ∧ linkReturns 0xA1 s = some 0x00 ∧ s.xph = .req ∧ s.req.bytes[s.txi.toNat]? = some 0xA1) ∧
    (let s := exchanging start3 start3 .fill 6 5 .accepting [0xA1];
      s.rxn.toNat < 6 ∧ linkReturns 0x00 s = some 0xA1 ∧ s.xph = .fill) := by decide

theorem witness_FirstByteDiscarded :
    let s := exchanging start3 Frame.zero .req 0 0 .seeking [0xFF]
    s.xph = .req ∧ s.txi = 0 ∧ s.rxn ≠ 6 ∧ linkReturns s.req.header0 s = some 0xFF := by decide

/-- The second transfer, and phase 2. -/
theorem witness_SeekingDiscards :
    (let s := exchanging start3 Frame.zero .req 1 0 .seeking [0xFE];
      byteToSend s = some 0xFF ∧ linkReturns 0xFF s = some 0xFE ∧ s.sync = .seeking ∧ s.rxn ≠ 6 ∧ (0xFE : Byte) ≠ 0xFF ∧
        s.xph = .req ∧ 1 ≤ s.txi.toNat) ∧
    (let s := exchanging start3 Frame.zero .fill 6 0 .seeking [0x00];
      byteToSend s = some 0x00 ∧ linkReturns 0x00 s = some 0x00 ∧ s.sync = .seeking ∧ s.rxn ≠ 6 ∧ (0x00 : Byte) ≠ 0xFF ∧
        s.xph = .fill) := by decide

/-- The second transfer finds the sync byte; the last offset takes any byte. -/
theorem witness_AcceptingStores :
    (let s := exchanging start3 Frame.zero .req 1 0 .seeking [0xFF];
      byteToSend s = some 0xFF ∧ linkReturns 0xFF s = some 0xFF ∧ s.rxn.toNat < 6 ∧ s.sync = .seeking ∧ s.xph = .req ∧
        1 ≤ s.txi.toNat) ∧
    (let s := exchanging start3 start3 .fill 6 5 .accepting [0x00];
      byteToSend s = some 0x00 ∧ linkReturns 0x00 s = some 0x00 ∧ s.rxn.toNat < 6 ∧ s.sync = .accepting ∧ s.xph = .fill) := by
  decide

/-- One state per clause, at the counts where the clauses meet. -/
theorem witness_ExchangePhases :
    (let s := exchanging start3 Frame.zero .req 4 3 .accepting [0x03];
      byteToSend s = some 0xA0 ∧ linkReturns 0xA0 s = some 0x03 ∧ s.xph = .req ∧ s.txi.toNat < 5 ∧ s.rxn.toNat < 5) ∧
    (let s := exchanging start3 Frame.zero .req 5 4 .accepting [0xA0];
      byteToSend s = some 0xA1 ∧ linkReturns 0xA1 s = some 0xA0 ∧ s.xph = .req ∧ s.txi = 5 ∧ s.rxn.toNat < 5) ∧
    (let s := exchanging start3 Frame.zero .fill 6 4 .accepting [0xA0];
      byteToSend s = some 0x00 ∧ linkReturns 0x00 s = some 0xA0 ∧ s.xph = .fill ∧ s.rxn.toNat < 5) ∧
    (let s := exchanging start3 Frame.zero .fill 6 5 .accepting [0xA1];
      byteToSend s = some 0x00 ∧ linkReturns 0x00 s = some 0xA1 ∧ s.xph = .fill ∧ s.rxn = 5 ∧ s.sync = .accepting) := by decide

/-- The last transfer of TURNON 3. -/
def verifying : State := exchanging start3 ⟨0xFF, 0xFF, 0x03, 0x01, 0xA0, 0x00⟩ .fill 6 5 .accepting [0xA1]

theorem witness_ExchangeVerifies : verifying.xph = .fill ∧ verifying.rxn = 5 ∧ verifying.sync = .accepting ∧
    linkReturns 0x00 verifying = some 0xA1 ∧ verifying.hstate = .busy := by decide

theorem witness_ExchangeVerifies_inv : ControlInv verifying := by
  refine ⟨?_, ?_, ?_, ?_, ?_, ?_, ?_, ?_, ?_⟩ <;> decide

theorem witness_ExchangeFrame :
    (nextOf (exec .exchange State.reset)).isSome ∧ State.reset.xph = .idle ∧
    (nextOf (exec .exchange (exchanging start3 Frame.zero .req 1 0 .seeking [0xFF]))).isSome ∧
    (exchanging start3 Frame.zero .req 1 0 .seeking [0xFF]).xph ≠ .idle := by decide

theorem witness_ExchangeClosedForm :
    let s := { State.reset with req := start3, script := delivery3.bytes ++ [0x77] }
    s.xph = .idle ∧ delivery3.clean ∧ s.script = delivery3.bytes ++ [0x77] := by decide

/-- A START request, and a RESPONSE request. -/
theorem witness_SuccessIffEcho :
    (let s := { State.reset with req := start3, script := delivery3.bytes ++ [] };
      s.xph = .idle ∧ delivery3.clean ∧ s.script = delivery3.bytes ++ [] ∧ s.req.typeByte ≠ s.params.typeCode .response) ∧
    (let s := { State.reset with req := placeholderFrame Params.ref .response 3, script := delivery3.bytes ++ [] };
      s.xph = .idle ∧ delivery3.clean ∧ s.script = delivery3.bytes ++ [] ∧ s.req.typeByte = s.params.typeCode .response) := by
  decide

/-- A request with the spec's type, and one whose bytes are all 0xFF. -/
theorem witness_ZeroDelayEchoFails :
    (let s := { State.reset with req := start3, script := start3.bytes ++ 0x00 :: [] };
      s.xph = .idle ∧ s.req.header0 = 0xFF ∧ s.req.header1 = 0xFF ∧ s.script = s.req.bytes ++ 0x00 :: []) ∧
    (let f : Frame := ⟨0xFF, 0xFF, 0xFF, 0xFF, 0xFF, 0xFF⟩;
      let s := { State.reset with req := f, script := f.bytes ++ 0xFF :: [] };
      s.xph = .idle ∧ s.req.header0 = 0xFF ∧ s.req.header1 = 0xFF ∧ s.script = s.req.bytes ++ 0xFF :: [] ∧
        s.req.typeByte ≠ s.params.typeCode .response) := by decide

theorem witness_ExchangeIndependent :
    let s := { State.reset with req := start3, script := delivery3.bytes ++ [] }
    let s' := { s with debugLevel := 2, numValid := true, success := true, reply := start3 }
    s.xph = .idle ∧ s'.xph = .idle ∧ delivery3.clean ∧ s.params = s'.params ∧ s.req = s'.req ∧
      s.script = delivery3.bytes ++ [] ∧ s'.script = delivery3.bytes ++ [] := by decide

theorem witness_TraceByLevel : State.reset.xph = .idle ∧
    (let s := exchanging start3 Frame.zero .req 1 0 .seeking [0xFF];
      s.xph ≠ .idle ∧ s.rxn.toNat < 6 ∧ byteToSend s = some 0xFF ∧ linkReturns 0xFF s = some 0xFF) := by decide

theorem witness_AssignAccepted : (offered 0x01000000 []).hstate = .idle := by decide

theorem witness_AssignPrimer :
    let s := assigning .primer [0x7E]
    s.params.Wf ∧ s.hstate = .busy ∧ s.curOp = 1 ∧ s.opAddr = 0 ∧ s.opDur = 0 ∧ s.estate = .primer ∧
      linkReturns s.params.primer s = some 0x7E := by decide

theorem witness_AssignPollGoesOn :
    (let s := assigning .poll [0x00];
      s.hstate = .busy ∧ s.curOp = 1 ∧ s.opAddr = 0 ∧ s.opDur = 0 ∧ s.estate = .poll ∧ linkReturns 0x00 s = some 0x00) ∧
    (let s := assigning .poll [0xFF];
      s.hstate = .busy ∧ s.curOp = 1 ∧ s.opAddr = 0 ∧ s.opDur = 0 ∧ s.estate = .poll ∧ linkReturns 0x00 s = some 0xFF) := by
  decide

/-- The smallest and the largest sentinel. -/
theorem witness_SentinelEndsAssign :
    (let s := assigning .poll [0x01];
      s.hstate = .busy ∧ s.curOp = 1 ∧ s.opAddr = 0 ∧ s.opDur = 0 ∧ s.estate = .poll ∧ linkReturns 0x00 s = some 0x01) ∧
    (let s := assigning .poll [0xFE];
      s.hstate = .busy ∧ s.curOp = 1 ∧ s.opAddr = 0 ∧ s.opDur = 0 ∧ s.estate = .poll ∧ linkReturns 0x00 s = some 0xFE) := by
  decide

/-- E1 and E5: the smallest and the largest count. -/
theorem witness_AssignCounts :
    (let s := offered 0x01000000 [0x00, 0x01];
      s.rst = false ∧ s.hstate = .idle ∧ s.cmds = [0x01000000] ∧ decodeCommand 0x01000000 = .instr (.assign 0 0) ∧
        allNotYet [] ∧ s.script = 0x00 :: [] ++ (0 + 1) :: []) ∧
    (let s := offered 0x01000000 [0x00, 0xFF, 0xFE];
      s.rst = false ∧ s.hstate = .idle ∧ s.cmds = [0x01000000] ∧ allNotYet [0xFF] ∧ (253 : Byte).toNat ≤ 253 ∧
        s.script = 0x00 :: [0xFF] ++ (253 + 1) :: []) := by decide

theorem witness_DeviceOpsAccepted : State.reset.hstate = .idle ∧ (1 : Byte) ≠ 0 := by decide

theorem witness_EmptyScan : State.reset.hstate = .idle := by decide

/-- One state per clause. -/
theorem witness_DeviceOpsBuild :
    ∀ c ∈ [((2 : BitVec 3), SeqPhase.cmd), (3, .cmd), (4, .cmd), (5, .cmd), (5, .fetch), (6, .cmd), (6, .fetch)],
      (betweenExchanges c.1 c.2 3 500).hstate = .busy ∧ (betweenExchanges c.1 c.2 3 500).opAddr = 3 ∧
      (betweenExchanges c.1 c.2 3 500).opDur = 500 ∧ (betweenExchanges c.1 c.2 3 500).xph = .idle ∧
      (betweenExchanges c.1 c.2 3 500).curOp = c.1 ∧ (betweenExchanges c.1 c.2 3 500).seq = c.2 := by decide

theorem witness_OneExchangeOpsComplete :
    ∀ op ∈ [(2 : BitVec 3), 3, 4],
      (lastTransfer op .cmd 3 0 500 start3 start3 0xA1).hstate = .busy ∧
      (lastTransfer op .cmd 3 0 500 start3 start3 0xA1).opAddr = 3 ∧
      (lastTransfer op .cmd 3 0 500 start3 start3 0xA1).opDur = 500 ∧
      (lastTransfer op .cmd 3 0 500 start3 start3 0xA1).xph = .fill ∧
      (lastTransfer op .cmd 3 0 500 start3 start3 0xA1).rxn = 5 ∧
      (lastTransfer op .cmd 3 0 500 start3 start3 0xA1).sync = .accepting ∧
      linkReturns 0x00 (lastTransfer op .cmd 3 0 500 start3 start3 0xA1) = some 0xA1 ∧
      (lastTransfer op .cmd 3 0 500 start3 start3 0xA1).curOp = op := by decide

/-- What the statements about the end of an exchange of a two-exchange operation assume. -/
def atLastTransfer (s : State) (op : BitVec 3) (a : Byte) (rx : Byte) : Prop :=
  s.hstate = .busy ∧ s.curOp = op ∧ s.opAddr = a ∧ s.opDur = 0 ∧ s.xph = .fill ∧ s.rxn = 5 ∧ s.sync = .accepting ∧
    linkReturns 0x00 s = some rx

/-- O12, O11 after its first exchange, and O11 at its end. -/
theorem witness_GetStateReturns :
    (let s := lastTransfer 6 .cmd 1 0 0 ⟨0xFF, 0xFF, 0x01, 0x05, 0xA0, 0xA1⟩ ⟨0xFF, 0xFF, 0x01, 0x05, 0xA0, 0⟩ 0x00;
      atLastTransfer s 6 1 0x00 ∧ verify s.params s.req { s.reply with payload1 := 0x00 } = false) ∧
    (let s := lastTransfer 6 .cmd 1 0 0 ⟨0xFF, 0xFF, 0x01, 0x05, 0xA0, 0xA1⟩ ⟨0xFF, 0xFF, 0x01, 0x05, 0xA0, 0⟩ 0xA1;
      atLastTransfer s 6 1 0xA1 ∧ verify s.params s.req { s.reply with payload1 := 0xA1 } = true ∧ s.seq = .cmd) ∧
    (let s := lastTransfer 6 .fetch 1 0 0 ⟨0xFF, 0xFF, 0x01, 0x06, 0xA0, 0xA1⟩ ⟨0xFF, 0xFF, 0x01, 0x06, 0x02, 0⟩ 0x00;
      atLastTransfer s 6 1 0x00 ∧ verify s.params s.req { s.reply with payload1 := 0x00 } = true ∧ s.seq = .fetch) := by
  simp only [atLastTransfer]; decide

/-- O9; a good CHECK; a fault; the last address; an address before the last. -/
theorem witness_ScanReturns :
    (let s := lastTransfer 5 .cmd 2 1 0 ⟨0xFF, 0xFF, 0x01, 0x04, 0xA0, 0xA1⟩ ⟨0xFF, 0xFF, 0x01, 0x04, 0xA0, 0⟩ 0xA0;
      atLastTransfer s 5 2 0xA0 ∧ verify s.params s.req { s.reply with payload1 := 0xA0 } = false) ∧
    (let s := lastTransfer 5 .cmd 2 1 0 ⟨0xFF, 0xFF, 0x01, 0x04, 0xA0, 0xA1⟩ ⟨0xFF, 0xFF, 0x01, 0x04, 0xA0, 0⟩ 0xA1;
      atLastTransfer s 5 2 0xA1 ∧ verify s.params s.req { s.reply with payload1 := 0xA1 } = true ∧ s.seq = .cmd) ∧
    (let s := lastTransfer 5 .fetch 2 1 0 ⟨0xFF, 0xFF, 0x01, 0x06, 0xA0, 0xA1⟩ ⟨0xFF, 0xFF, 0x01, 0x06, 0x05, 0⟩ 0x00;
      atLastTransfer s 5 2 0x00 ∧ verify s.params s.req { s.reply with payload1 := 0x00 } = true ∧ s.seq = .fetch ∧
        s.reply.payload0 ≠ 0x00) ∧
    (let s := lastTransfer 5 .fetch 1 1 0 ⟨0xFF, 0xFF, 0x01, 0x06, 0xA0, 0xA1⟩ ⟨0xFF, 0xFF, 0x01, 0x06, 0x00, 0⟩ 0x00;
      atLastTransfer s 5 1 0x00 ∧ verify s.params s.req { s.reply with payload1 := 0x00 } = true ∧ s.seq = .fetch ∧
        s.reply.payload0 = 0x00 ∧ s.scanAddr = 1) ∧
    (let s := lastTransfer 5 .fetch 255 254 0 ⟨0xFF, 0xFF, 0xFE, 0x06, 0xA0, 0xA1⟩ ⟨0xFF, 0xFF, 0xFE, 0x06, 0x00, 0⟩ 0x00;
      atLastTransfer s 5 255 0x00 ∧ verify s.params s.req { s.reply with payload1 := 0x00 } = true ∧ s.seq = .fetch ∧
        s.reply.payload0 = 0x00 ∧ s.scanAddr ≠ 255 ∧ s.scanAddr.toNat ≤ (255 : Byte).toNat) := by
  simp only [atLastTransfer]; decide

/-- From an idle engine, between exchanges, and in a transfer. -/
theorem witness_DeviceOpsFrame :
    (nextOf (exec (.turnOn 3 0) State.reset)).isSome ∧ State.reset.hstate = .idle ∧
    (nextOf (exec (.checkAll 3 0) (betweenExchanges 5 .fetch 3 0))).isSome ∧ (betweenExchanges 5 .fetch 3 0).hstate = .busy ∧
    (nextOf (exec (.turnOn 3 0) (exchanging start3 Frame.zero .req 1 0 .seeking [0xFF]))).isSome ∧
    (exchanging start3 Frame.zero .req 1 0 .seeking [0xFF]).xph ≠ .idle := by decide

/-- One run per command. -/
theorem witness_OneExchangeCommandsRun :
    (let s := offered 0x02030000 (delivery3.bytes ++ []);
      s.rst = false ∧ s.hstate = .idle ∧ s.xph = .idle ∧ s.cmds = 0x02030000 :: [] ∧ delivery3.clean ∧
        s.script = delivery3.bytes ++ []) ∧
    decodeCommand 0x02030000 = .instr (.turnOn 3 0) ∧ decodeCommand 0x03030000 = .instr (.turnOff 3 0) ∧
    decodeCommand 0x040301F4 = .instr (.dispense 3 500) := by decide

/-- O12 and O11. -/
theorem witness_GetStateRun :
    let bad : Delivery := ⟨0x00, [], ⟨0xFF, 0xFF, 0x01, 0x05, 0xA0, 0x00⟩⟩
    let good : Delivery := ⟨0x00, [], ⟨0xFF, 0xFF, 0x01, 0x05, 0xA0, 0xA1⟩⟩
    let answer : Delivery := ⟨0x00, [], ⟨0xFF, 0xFF, 0x01, 0x06, 0x02, 0x00⟩⟩
    (let s := offered 0x06010000 (good.bytes ++ (answer.bytes ++ []));
      s.rst = false ∧ s.hstate = .idle ∧ s.xph = .idle ∧ s.cmds = 0x06010000 :: [] ∧
        s.script = good.bytes ++ (answer.bytes ++ [])) ∧
    (let s := offered 0x06010000 (bad.bytes ++ (answer.bytes ++ []));
      s.rst = false ∧ s.hstate = .idle ∧ s.xph = .idle ∧ s.cmds = 0x06010000 :: [] ∧
        s.script = bad.bytes ++ (answer.bytes ++ [])) ∧
    decodeCommand 0x06010000 = .instr (.getState 1 0) ∧ bad.clean ∧ good.clean ∧ answer.clean ∧
    verify Params.ref (placeholderFrame Params.ref .getState 1) bad.frame = false ∧
    verify Params.ref (placeholderFrame Params.ref .getState 1) good.frame = true := by decide

theorem witness_ScanFindsFirstFault :
    let s := offered 0x05020000 (chainScript Params.ref 1 slaves ++ [])
    s.rst = false ∧ s.hstate = .idle ∧ s.xph = .idle ∧ s.cmds = 0x05020000 :: [] ∧
      decodeCommand 0x05020000 = .instr (.checkAll 2 0) ∧ 1 ≤ (2 : Byte).toNat ∧ slaves.length = (2 : Byte).toNat ∧
      (∀ v ∈ slaves, v.clean) ∧ s.script = chainScript s.params 1 slaves ++ [] := by decide

/-- Device 1 healthy; device 2 answers CHECK wrongly, or CHECK well and RESPONSE with another address. -/
theorem witness_ScanAbortsOnFailure :
    let vs : List SlaveTurn := [⟨0x00, [], 0x37, [0x12], 0x00, 0x00⟩]
    let bad : Delivery := ⟨0x00, [], ⟨0xFF, 0xFF, 0x02, 0x04, 0xA0, 0x00⟩⟩
    let good : Delivery := ⟨0x00, [], ⟨0xFF, 0xFF, 0x02, 0x04, 0xA0, 0xA1⟩⟩
    let lost : Delivery := ⟨0x00, [0x00], ⟨0xFF, 0xFF, 0x03, 0x06, 0x00, 0x00⟩⟩
    let s := offered 0x05020000 (chainScript Params.ref 1 vs ++ (bad.bytes ++ []))
    let s' := offered 0x05020000 (chainScript Params.ref 1 vs ++ (good.bytes ++ (lost.bytes ++ [])))
    s.rst = false ∧ s.hstate = .idle ∧ s.xph = .idle ∧ s.cmds = 0x05020000 :: [] ∧
      s'.rst = false ∧ s'.hstate = .idle ∧ s'.xph = .idle ∧ s'.cmds = 0x05020000 :: [] ∧
      decodeCommand 0x05020000 = .instr (.checkAll 2 0) ∧ vs.length < (2 : Byte).toNat ∧
      (∀ u ∈ vs, u.clean ∧ u.status = 0x00) ∧ bad.clean ∧ good.clean ∧ lost.clean ∧
      verify s.params (placeholderFrame s.params .check (BitVec.ofNat 8 (vs.length + 1))) bad.frame = false ∧
      s.script = chainScript s.params 1 vs ++ (bad.bytes ++ []) ∧
      verify s'.params (placeholderFrame s'.params .check (BitVec.ofNat 8 (vs.length + 1))) good.frame = true ∧
      verify s'.params (placeholderFrame s'.params .response (BitVec.ofNat 8 (vs.length + 1))) lost.frame = false ∧
      s'.script = chainScript s'.params 1 vs ++ (good.bytes ++ (lost.bytes ++ [])) := by decide

/-- Under either order. -/
theorem witness_DurationOrderIrrelevant :
    ∀ o ∈ [DurOrder.le, .be],
      let p := { Params.ref with durOrder := o }
      let s := { offered 0x040301F4 ((Delivery.mk 0x00 [0x00] (dispenseFrame p 3 500)).bytes ++ []) with params := p }
      s.rst = false ∧ s.hstate = .idle ∧ s.xph = .idle ∧ s.cmds = 0x040301F4 :: [] ∧
        decodeCommand 0x040301F4 = .instr (.dispense 3 500) ∧ noSync [0x00] ∧ s.params.durOrder = o ∧
        s.script = (Delivery.mk 0x00 [0x00] (dispenseFrame s.params 3 500)).bytes ++ [] := by decide

theorem witness_SetDebugStores : State.reset.hstate = .idle := by decide

theorem witness_BusResetClearsSession : ({ State.reset with numValid := true }).hstate = .idle := by decide

/-- One state per clause; the poll at both ends of the sentinel's range. -/
theorem witness_HostReads :
    (let s := { State.reset with numValid := true, numDispensers := 3, resWritten := true };
      s.hstate = .idle ∧ s.numValid = true ∧ s.resWritten = true) ∧ State.reset.numValid = false ∧
    (betweenExchanges 2 .cmd 3 0).hstate = .busy ∧ State.reset.resWritten = false ∧
    (nextOf (exec (.busReset 0 0) State.reset)).isSome ∧
    (∀ rx ∈ [(0x01 : Byte), 0xFE],
      let s := assigning .poll [rx]
      s.rst = false ∧ s.hstate = .busy ∧ s.curOp = 1 ∧ s.estate = .poll ∧ linkReturns 0x00 s = some rx ∧ rx ≠ 0x00 ∧
        rx ≠ 0xFF) := by decide

/-- An idle engine that is offered TURNON, and a busy one that runs it. -/
theorem witness_StepRunsDecodedWord :
    (let s := offered 0x02030000 [];
      s.rst = false ∧ s.hstate = .idle ∧ s.cmds = 0x02030000 :: [] ∧ decodeCommand 0x02030000 = .instr (.turnOn 3 0)) ∧
    (let s := betweenExchanges 2 .cmd 3 0;
      s.rst = false ∧ s.hstate = .busy ∧
        decodeCommand (commandWord (s.curOp.setWidth 8) s.opAddr s.opDur) = .instr (.turnOn 3 0)) := by decide

theorem witness_IdleEngineWaits : State.reset.rst = false ∧ State.reset.hstate = .idle ∧ State.reset.cmds = [] := by decide

/-- The first and the last reserved code. -/
theorem witness_ReservedCodeRefused :
    ((offered 0x08000000 []).rst = false ∧ (offered 0x08000000 []).hstate = .idle ∧
      (offered 0x08000000 []).cmds = 0x08000000 :: [] ∧ 8 ≤ (wordOp 0x08000000).toNat) ∧
    ((offered 0xFF030000 []).rst = false ∧ (offered 0xFF030000 []).hstate = .idle ∧
      (offered 0xFF030000 []).cmds = 0xFF030000 :: [] ∧ 8 ≤ (wordOp 0xFF030000).toNat) := by decide

/-- One running command for every command that is then refused; TURNON 4, or another duration, during TURNON 3. -/
theorem witness_BusyCommandRefused : (betweenExchanges 2 .cmd 3 0).hstate = .busy ∧ (assigning .poll []).hstate = .busy ∧
    (betweenExchanges 2 .cmd 3 0).curOp ≠ 1 ∧ (assigning .poll []).curOp ≠ 2 ∧ (betweenExchanges 2 .cmd 3 0).curOp ≠ 3 ∧
    (betweenExchanges 2 .cmd 3 0).curOp ≠ 4 ∧ (betweenExchanges 2 .cmd 3 0).curOp ≠ 5 ∧
    (betweenExchanges 2 .cmd 3 0).curOp ≠ 6 ∧ (betweenExchanges 2 .cmd 3 0).opAddr ≠ 4 ∧
    (betweenExchanges 2 .cmd 3 0).opDur ≠ 1 := by decide

theorem witness_EngineResetStep : ({ hanging with rst := true }).rst = true := by decide

/-- The invariant in the middle of an exchange. -/
theorem controlInv_hanging : ControlInv hanging := by
  refine ⟨?_, ?_, ?_, ?_, ?_, ?_, ?_, ?_, ?_⟩ <;> decide

/-- The invariant in an enumeration. -/
theorem controlInv_assigning : ControlInv (assigning .poll [0x03]) := by
  refine ⟨?_, ?_, ?_, ?_, ?_, ?_, ?_, ?_, ?_⟩ <;> decide

/-- The invariant in a scan, at the last transfer of an exchange. -/
theorem controlInv_scan : ControlInv (lastTransfer 5 .fetch 255 254 0 ⟨0xFF, 0xFF, 0xFE, 0x06, 0xA0, 0xA1⟩
    ⟨0xFF, 0xFF, 0xFE, 0x06, 0x00, 0⟩ 0x00) := by
  refine ⟨?_, ?_, ?_, ?_, ?_, ?_, ?_, ?_, ?_⟩ <;> decide

theorem witness_StepKeepsControlInv :
    (ControlInv hanging ∧ (nextOf (step hanging)).isSome) ∧
    (ControlInv (assigning .poll [0x03]) ∧ (nextOf (step (assigning .poll [0x03]))).isSome) :=
  ⟨⟨controlInv_hanging, by decide⟩, controlInv_assigning, by decide⟩

theorem witness_StepStopsOnlyAsStated : ControlInv (lastTransfer 5 .fetch 255 254 0 ⟨0xFF, 0xFF, 0xFE, 0x06, 0xA0, 0xA1⟩
    ⟨0xFF, 0xFF, 0xFE, 0x06, 0x00, 0⟩ 0x00) := controlInv_scan

/-- One state per clause, at the first offset that does not exist. -/
theorem witness_UnreachableControlStops :
    (let s := exchanging start3 Frame.zero .req 6 0 .seeking [];
      s.xph = .req ∧ 6 ≤ s.txi.toNat) ∧
    (let s := exchanging start3 Frame.zero .fill 6 6 .accepting [0x00];
      s.xph = .fill ∧ 6 ≤ s.rxn.toNat ∧ s.sync = .accepting ∧ linkReturns 0x00 s = some 0x00) ∧
    (let s := assigning .idle [];
      s.hstate = .busy ∧ s.curOp = 1 ∧ s.opAddr = 0 ∧ s.opDur = 0 ∧ s.estate = .idle) ∧
    (∀ op ∈ [(2 : BitVec 3), 3, 4, 5, 6], (betweenExchanges op .none 3 0).hstate = .busy ∧
      (betweenExchanges op .none 3 0).opAddr = 3 ∧ (betweenExchanges op .none 3 0).opDur = 0 ∧
      (betweenExchanges op .none 3 0).xph = .idle ∧ (betweenExchanges op .none 3 0).seq = .none ∧
      (betweenExchanges op .none 3 0).curOp = op) := by decide

/-- A stalled link in an exchange, at the primer, at a poll, and for the whole machine. -/
theorem witness_StalledLinkSticks :
    (let s := { hanging with tail := .stalled };
      s.xph ≠ .idle ∧ byteToSend s = some 0x00 ∧ linkReturns 0x00 s = none ∧ s.rst = false ∧ s.hstate = .busy ∧
        s.script = [] ∧ s.tail = .stalled) ∧
    (let s := { assigning .primer [] with tail := .stalled };
      s.hstate = .busy ∧ s.curOp = 1 ∧ s.opAddr = 0 ∧ s.opDur = 0 ∧ s.estate = .primer ∧ linkReturns s.params.primer s = none) ∧
    (let s := { assigning .poll [] with tail := .stalled };
      s.hstate = .busy ∧ s.curOp = 1 ∧ s.opAddr = 0 ∧ s.opDur = 0 ∧ s.estate = .poll ∧ linkReturns 0x00 s = none) := by decide

theorem witness_StalledLinkSticks_inv : ControlInv { hanging with tail := .stalled } := by
  refine ⟨?_, ?_, ?_, ?_, ?_, ?_, ?_, ?_, ?_⟩ <;> decide

/-- From the first transfer, whose 0xFF does not count; from the last of phase 1; from phase 2 on the line of P5. -/
theorem witness_SeekingHangs :
    (let s := exchanging start3 Frame.zero .req 0 0 .seeking ([0xFF, 0x00, 0xFE, 0x01, 0x00, 0x00, 0x37] ++ [0x11]);
      s.rst = false ∧ s.xph ≠ .idle ∧ s.sync = .seeking ∧
        s.script = [0xFF, 0x00, 0xFE, 0x01, 0x00, 0x00, 0x37] ++ [0x11] ∧
        noSync (if s.xph = .req ∧ s.txi = 0 then [0xFF, 0x00, 0xFE, 0x01, 0x00, 0x00, 0x37].tail
          else [0xFF, 0x00, 0xFE, 0x01, 0x00, 0x00, 0x37])) ∧
    (let s := exchanging start3 Frame.zero .req 5 0 .seeking ([0x00, 0xFE] ++ []);
      s.rst = false ∧ s.xph ≠ .idle ∧ s.sync = .seeking ∧ s.script = [0x00, 0xFE] ++ [] ∧
        noSync (if s.xph = .req ∧ s.txi = 0 then [0x00, 0xFE].tail else [0x00, 0xFE])) ∧
    (hanging.rst = false ∧ hanging.xph = .fill ∧ hanging.sync = .seeking ∧ hanging.script = [] ∧
      hanging.tail = .repeats 0x00 ∧ (0x00 : Byte) ≠ 0xFF) := by decide

theorem witness_SeekingHangs_inv :
    ControlInv (exchanging start3 Frame.zero .req 0 0 .seeking ([0xFF, 0x00, 0xFE, 0x01, 0x00, 0x00, 0x37] ++ [0x11])) ∧
    ControlInv (exchanging start3 Frame.zero .req 5 0 .seeking ([0x00, 0xFE] ++ [])) ∧ ControlInv hanging := by
  refine ⟨?_, ?_, controlInv_hanging⟩ <;> refine ⟨?_, ?_, ?_, ?_, ?_, ?_, ?_, ?_, ?_⟩ <;> decide

/-- E9: the two bytes mixed, from the primer and from a poll; and either byte held. -/
theorem witness_PollingHangs :
    (let s := assigning .primer (0x7E :: ([0x00, 0xFF, 0x00] ++ [0x03]));
      s.rst = false ∧ s.hstate = .busy ∧ s.curOp = 1 ∧ s.estate = .primer ∧
        s.script = 0x7E :: ([0x00, 0xFF, 0x00] ++ [0x03]) ∧ allNotYet [0x00, 0xFF, 0x00]) ∧
    (let s := assigning .poll ([0xFF, 0x00] ++ []);
      s.rst = false ∧ s.hstate = .busy ∧ s.curOp = 1 ∧ s.estate = .poll ∧ s.script = [0xFF, 0x00] ++ [] ∧
        allNotYet [0xFF, 0x00]) ∧
    (∀ b ∈ [(0x00 : Byte), 0xFF],
      let s := { assigning .poll [] with tail := .repeats b }
      s.rst = false ∧ s.hstate = .busy ∧ s.curOp = 1 ∧ s.estate = .poll ∧ s.script = [] ∧ s.tail = .repeats b ∧
        (b = 0x00 ∨ b = 0xFF)) := by decide

theorem witness_DebugLevelObservational :
    let s' := { hanging with debugLevel := 2, trace := [.byte 0x00 0x00], traceDraws := 7 }
    hanging.untraced = s'.untraced := by decide

theorem witness_ParametersConstant : (nextOf (step hanging)).isSome := by decide

/-- An instruction of each clause's kind that answers a next state; a step that changes the count, one that clears its
validity, one that sets the debug level, and the engine-reset step. -/
theorem witness_SessionWriters : (nextOf (exec (.turnOn 3 0) State.reset)).isSome ∧
    (nextOf (exec (.busReset 0 0) State.reset)).isSome ∧ (nextOf (exec (.assign 0 0) (assigning .poll [0x03]))).isSome ∧
    (nextOf (step (assigning .poll [0x03]))).map State.numDispensers = some 2 ∧
    (assigning .poll [0x03]).numDispensers ≠ 2 ∧ (assigning .poll [0x03]).rst = false ∧
    (nextOf (step { offered 0x00000000 [] with numValid := true })).map State.numValid = some false ∧
    (nextOf (step (offered 0x07020000 []))).map State.debugLevel = some 2 ∧ (offered 0x07020000 []).debugLevel ≠ 2 ∧
    (nextOf (step { hanging with rst := true })).isSome := by decide

theorem witness_WireGrowsByOne : (nextOf (step hanging)).isSome := by decide

end Sys2Proof.Tests
end

namespace Sys2Proof

/-! ## Decode after encode (R90 to R96, R101, R102) -/

/-- The request instruction of a kind, read with its operands: only DISPENSE reads the payload (R110). -/
def requestInstr (o : DurOrder) (kind : Kind) (addr p0 p1 : Byte) : Instr :=
  match kind with
  | .start => .reqStart addr
  | .stop => .reqStop addr
  | .dispense => .reqDispense addr (payloadDuration o p0 p1)
  | .check => .reqCheck addr
  | .getState => .reqGetState addr
  | .response => .reqResponse addr

/-- A request frame of any kind is read back as the request of that kind; TYPE_CODE is injective (R6, R93). -/
theorem decodeFrame_requestFrame {p : Params} (hp : p.Wf) (kind : Kind) (addr p0 p1 : Byte) :
    decodeFrame p (requestFrame p kind addr p0 p1) = .instr (requestInstr p.durOrder kind addr p0 p1) := by
  have hk : kindOfType p (p.typeCode kind) = some kind := kindOfType_typeCode hp kind
  cases kind <;> simp [decodeFrame, requestFrame, hk, requestInstr]

/-- The frame of a request is read back as that request (R90 to R96). -/
theorem decodeFrame_of_encode {p : Params} (hp : p.Wf) {i : Instr} {f : Frame} (h : encode p i = some (.frame f)) :
    decodeFrame p f = .instr i := by
  cases i with
  | reqStart | reqStop | reqCheck | reqGetState | reqResponse =>
    cases h
    exact decodeFrame_requestFrame hp _ _ _ _
  | reqDispense addr d =>
    cases h
    rw [dispenseFrame, decodeFrame_requestFrame hp, requestInstr, payloadDuration_durationPayload]
  | _ => cases h

/-- The word of a host command is read back as that command, ignored fields included (R101, R102). -/
theorem decodeCommand_of_encode {p : Params} {i : Instr} {w : Word32} (h : encode p i = some (.command w)) :
    decodeCommand w = .instr i := by
  cases i with
  | busReset | assign | turnOn | turnOff | dispense | checkAll | getState | setDebug =>
    cases h
    simp [decodeCommand]
  | _ => cases h

/-- Settles O2: a command word is its three fields, and a frame's type byte has one kind only. -/
theorem decodeOfEncode : Obligations.DecodeOfEncode := by
  intro p i e hp h
  cases e with
  | command w => exact decodeCommand_of_encode h
  | frame f => exact decodeFrame_of_encode hp h

end Sys2Proof

namespace Sys2Proof.Machine

/-! ## What leaves the session and the parameters alone (R6, R150, R219) -/

/-- Whatever next state `m` answers, the parameters, the slave count, its validity and DEBUG_LEVEL are as before. -/
def KeepsSession (m : State → Result) : Prop := ∀ s t, m s = .next t → sessionOf t = sessionOf s

@[simp] theorem sessionOf_endDeviceOp (ok : Bool) (a b : Byte) (s : State) :
    sessionOf (endDeviceOp ok a b s) = sessionOf s := rfl

@[simp] theorem sessionOf_takeTransmissionError (openA openB : Bool) (s : State) :
    sessionOf (takeTransmissionError openA openB s) = sessionOf s := rfl

@[simp] theorem sessionOf_accept (op : BitVec 3) (a : Byte) (d : Half) (s : State) :
    sessionOf (accept op a d s) = sessionOf s := rfl

@[simp] theorem sessionOf_beginCommand (s : State) : sessionOf (beginCommand s) = sessionOf s := rfl

@[simp] theorem sessionOf_beginScan (count : Byte) (s : State) : sessionOf (beginScan count s) = sessionOf s := by
  unfold beginScan; split_ifs <;> rfl

@[simp] theorem sessionOf_scanVerdict (count : Byte) (s : State) : sessionOf (scanVerdict count s) = sessionOf s := by
  unfold scanVerdict; split_ifs <;> rfl

theorem execBuild_keepsSession (kind : Kind) (addr p0 p1 : Byte) : KeepsSession (execBuild kind addr p0 p1) := by
  intro s t h
  cases h
  rfl

theorem execReqDispense_keepsSession (addr : Byte) (d : Half) : KeepsSession (execReqDispense addr d) :=
  fun s t h => execBuild_keepsSession _ _ _ _ s t h

theorem execExchange_keepsSession : KeepsSession execExchange := by
  intro s t h
  rw [execExchange_only h]
  rfl

theorem returnSuccess_keepsSession : KeepsSession returnSuccess := by
  intro s t h
  unfold returnSuccess at h
  split at h <;> cases h <;> rfl

theorem resumeScan_keepsSession (count : Byte) : KeepsSession (resumeScan count) := by
  intro s t h
  unfold resumeScan at h
  split at h
  · split at h <;> cases h
    · rfl
    · exact sessionOf_scanVerdict count s
  · cases h
    rfl

theorem resumeGetState_keepsSession : KeepsSession resumeGetState := by
  intro s t h
  unfold resumeGetState at h
  split at h
  · split at h <;> cases h <;> rfl
  · cases h
    rfl

theorem KeepsSession.buildInCmd {build : State → Result} (hb : KeepsSession build) :
    KeepsSession (buildInCmd build) := by
  intro s t h
  unfold Machine.buildInCmd at h
  split at h
  · exact hb s t h
  all_goals cases h

theorem buildScan_keepsSession : KeepsSession buildScan := by
  intro s t h
  unfold buildScan at h
  split at h <;> cases h <;> rfl

theorem buildGetState_keepsSession (addr : Byte) : KeepsSession (buildGetState addr) := by
  intro s t h
  unfold buildGetState at h
  split at h <;> cases h <;> rfl

/-- A BUILD and EXCHANGE pair, by what its request and its return do (R210). -/
theorem KeepsSession.drivePair {build resume : State → Result} (hb : KeepsSession build) (hr : KeepsSession resume) :
    KeepsSession (drivePair build resume) := by
  intro s t h
  rcases drivePair_cases h with ⟨u, -, hbuild, hstart⟩ | ⟨u, -, hxfer, ⟨-, rfl⟩ | ⟨-, hresume⟩⟩
  · exact (execExchange_keepsSession u t hstart).trans (hb s u hbuild)
  · exact execExchange_keepsSession s t hxfer
  · exact (hr u t hresume).trans (execExchange_keepsSession s u hxfer)

/-- A device operation, by what its beginning, its request and its return do (R219). -/
theorem KeepsSession.deviceOp {op : BitVec 3} {a : Byte} {d : Half} {begin : State → State}
    {build resume : State → Result} (hbegin : ∀ s, sessionOf (begin s) = sessionOf s) (hb : KeepsSession build)
    (hr : KeepsSession resume) : KeepsSession (deviceOp op a d begin build resume) := by
  intro s t h
  rcases deviceOp_cases h with ⟨-, rfl⟩ | ⟨-, -, -, -, hpair⟩
  · rw [hbegin, sessionOf_accept]
  · exact hb.drivePair hr s t hpair

/-- Every instruction but ASSIGN, BUSRESET and SETDEBUG leaves the session and the parameters alone (R150, R219). -/
theorem exec_keepsSession {i : Instr} (hassign : ∀ a d, i ≠ .assign a d) (hreset : ∀ a d, i ≠ .busReset a d)
    (hdebug : ∀ level d, i ≠ .setDebug level d) : KeepsSession (exec i) := by
  cases i with
  | assign a d => exact absurd rfl (hassign a d)
  | busReset a d => exact absurd rfl (hreset a d)
  | setDebug level d => exact absurd rfl (hdebug level d)
  | reqStart | reqStop | reqCheck | reqGetState | reqResponse | build => exact execBuild_keepsSession _ _ _ _
  | reqDispense addr d => exact execReqDispense_keepsSession addr d
  | exchange => exact execExchange_keepsSession
  | turnOn | turnOff =>
    exact .deviceOp sessionOf_beginCommand (execBuild_keepsSession _ _ _ _).buildInCmd returnSuccess_keepsSession
  | dispense addr d =>
    exact .deviceOp sessionOf_beginCommand (execReqDispense_keepsSession addr d).buildInCmd returnSuccess_keepsSession
  | checkAll count d =>
    exact .deviceOp (sessionOf_beginScan count) buildScan_keepsSession (resumeScan_keepsSession count)
  | getState addr d =>
    exact .deviceOp sessionOf_beginCommand (buildGetState_keepsSession addr) resumeGetState_keepsSession

/-! ## The parameters (R6, R34) -/

theorem execAssign_params {a : Byte} {d : Half} {s t : State} (h : execAssign a d s = .next t) :
    t.params = s.params := by
  rcases execAssign_cases h with ⟨-, rfl⟩ | ⟨rx, -, -, -, -, rfl⟩ | ⟨rx, -, -, -, -, ⟨-, rfl⟩ | ⟨-, rfl⟩⟩ <;> rfl

/-- No instruction writes the parameters (R6). -/
theorem exec_params {i : Instr} {s t : State} (h : exec i s = .next t) : t.params = s.params := by
  cases i with
  | assign a d => exact execAssign_params h
  | busReset a d =>
    obtain ⟨-, rfl⟩ := execBusReset_cases (a := a) (d := d) h
    rfl
  | setDebug level d =>
    obtain ⟨-, rfl⟩ := execSetDebug_cases h
    rfl
  | _ => exact congrArg Prod.fst (exec_keepsSession (by simp) (by simp) (by simp) _ _ h)

/-- Settles O56: engine reset keeps the parameters, and so does every instruction a step runs. -/
theorem parametersConstant : Obligations.ParametersConstant := by
  intro s t h
  rcases step_cases h with ⟨-, rfl⟩ | ⟨-, -, -, rfl⟩ | ⟨w, ws, i, -, -, -, -, hexec⟩ | ⟨i, -, -, -, hexec⟩
  · exact engineReset_params s
  · rfl
  · exact exec_params (s := { s with cmds := ws }) hexec
  · exact exec_params hexec

end Sys2Proof.Machine

namespace Sys2Proof.Machine

/-! ## The exchange part of the control invariant (R25, R27, R75, R159) -/

/-- The clauses of `ControlInv` that speak of the exchange alone. -/
def ExchangeInv (s : State) : Prop :=
  (s.sync = .accepting ↔ s.rxn ≠ 0) ∧
  (s.xph = .req → s.txi.toNat < 6 ∧ s.rxn.toNat ≤ s.txi.toNat - 1) ∧
  (s.xph = .fill → s.txi = 6 ∧ s.rxn.toNat < 6) ∧
  (s.rxn ≠ 0 → s.reply.header0 = Config.syncByte)

theorem ControlInv.exchange {s : State} (hi : ControlInv s) : ExchangeInv s :=
  ⟨hi.syncRxn, hi.phaseOne, hi.phaseTwo, hi.replySync⟩

/-- The exchange part after a received byte, before the two tests at the end of X_step: TXI has counted the transfer,
and the reply may just be full (R158, R166). -/
def ReceivedInv (s : State) : Prop :=
  (s.sync = .accepting ↔ s.rxn ≠ 0) ∧
  (s.xph = .req → s.txi.toNat ≤ 6 ∧ s.rxn.toNat ≤ s.txi.toNat - 1) ∧
  (s.xph = .fill → s.txi = 6 ∧ s.rxn.toNat ≤ 6) ∧
  (s.rxn ≠ 0 → s.reply.header0 = Config.syncByte)

theorem exchangeInv_startExchange (s : State) : ExchangeInv (startExchange s) := by
  simp [ExchangeInv]

/-- The tests at the end of X_step leave phase 1 and the exchange in time (R158). -/
theorem ReceivedInv.settleExchange {s : State} (h : ReceivedInv s) : ExchangeInv (settleExchange s) := by
  obtain ⟨hsync, hreq, hfill, hreply⟩ := h
  by_cases hfull : s.rxn = 6
  · rw [settleExchange_full hfull]
    exact ⟨hsync, nofun, nofun, hreply⟩
  by_cases hend : s.xph = .req ∧ s.txi = 6
  · rw [settleExchange_phaseEnd hfull hend.1 hend.2]
    refine ⟨hsync, nofun, fun _ => ⟨hend.2, ?_⟩, hreply⟩
    have := hreq hend.1
    dsimp only
    omega
  · rw [settleExchange_goesOn hfull hend]
    refine ⟨hsync, fun hx => ?_, fun hx => ?_, hreply⟩
    · have htxi : s.txi ≠ 6 := fun h => hend ⟨hx, h⟩
      have := hreq hx
      bv_omega
    · have := hfill hx
      bv_omega

theorem ExchangeInv.receivedInv_discard {s : State} (h : ExchangeInv s) (tx rx : Byte) :
    ReceivedInv (transferred tx rx s) := by
  obtain ⟨hsync, hreq, hfill, hreply⟩ := h
  refine ⟨by simpa using hsync, fun hx => ?_, fun hx => ?_, by simpa using hreply⟩
  · rw [transferred_xph] at hx
    have := hreq hx
    rw [transferred_txi_req hx, transferred_rxn]
    bv_omega
  · rw [transferred_xph] at hx
    have := hfill hx
    rw [transferred_txi_fill (by simp [hx]), transferred_rxn]
    exact ⟨this.1, this.2.le⟩

/-- The first byte stored is a sync byte, and a later one leaves it alone (R75, R154, R155). -/
theorem header0_of_accepted {s : State} {rx : Byte} {r : Frame} (h : ExchangeInv s)
    (ha : acceptsByte (isFirstTransfer s) s.sync rx = true) (hr : s.reply.set? s.rxn.toNat rx = some r) :
    r.header0 = Config.syncByte := by
  obtain ⟨hsync, -, -, hreply⟩ := h
  by_cases h0 : s.rxn = 0
  · have hseek : s.sync ≠ .accepting := fun h => hsync.mp h h0
    have hrx : rx = Config.syncByte := by simp_all [acceptsByte]
    rw [h0] at hr
    cases hr
    exact hrx
  · have hne : 0 ≠ s.rxn.toNat := by bv_omega
    have hkeep : r.get? 0 = s.reply.get? 0 := Frame.get?_set?_other hr hne
    exact (Option.some.inj hkeep).trans (hreply h0)

theorem ExchangeInv.receivedInv_accept {s : State} {tx rx : Byte} {r : Frame} (h : ExchangeInv s)
    (ha : acceptsByte (isFirstTransfer s) s.sync rx = true) (hr : s.reply.set? s.rxn.toNat rx = some r) :
    ReceivedInv { transferred tx rx s with reply := r, rxn := s.rxn + 1, sync := .accepting } := by
  have hroom : s.rxn.toNat < 6 := (Frame.set?_isSome_iff s.reply s.rxn.toNat rx).mp (by simp [hr])
  have hstored : s.rxn + 1 ≠ 0 := by bv_omega
  have hheader := header0_of_accepted h ha hr
  obtain ⟨-, hreq, hfill, -⟩ := h
  refine ⟨by simpa using hstored, fun hx => ?_, fun hx => ?_, fun _ => hheader⟩
  · change (transferred tx rx s).xph = .req at hx
    rw [transferred_xph] at hx
    have hlater : s.txi ≠ 0 := fun h0 => by simp [isFirstTransfer, acceptsByte, hx, h0] at ha
    have := hreq hx
    dsimp only
    rw [transferred_txi_req hx]
    bv_omega
  · change (transferred tx rx s).xph = .fill at hx
    rw [transferred_xph] at hx
    have := hfill hx
    dsimp only
    rw [transferred_txi_fill (by simp [hx])]
    exact ⟨this.1, by bv_omega⟩

/-- Every step of EXCHANGE keeps the exchange part, from any state that has it. -/
theorem ExchangeInv.execExchange {s t : State} (h : ExchangeInv s) (he : execExchange s = .next t) :
    ExchangeInv t := by
  rcases execExchange_cases he with ⟨-, rfl⟩ | ⟨tx, rx, -, -, -, ⟨-, rfl⟩ | ⟨r, ha, hr, rfl⟩⟩
  · exact exchangeInv_startExchange s
  · exact (h.receivedInv_discard tx rx).settleExchange
  · exact (h.receivedInv_accept ha hr).settleExchange

/-! ## The control invariant between exchanges -/

/-- An idle engine has the invariant when it is quiet (R24). -/
theorem ControlInv.of_idle {s : State} (he : ExchangeInv s) (hh : s.hstate = .idle) (hx : s.xph = .idle)
    (hest : s.estate = .idle) (hseq : s.seq = .none) (hcount : s.numValid = true → s.numDispensers.toNat ≤ 253) :
    ControlInv s := by
  obtain ⟨hsync, hreq, hfill, hreply⟩ := he
  exact ⟨fun _ => ⟨hx, hest, hseq⟩, by simp [hh], by simp [hx], hsync, hreq, hfill, hreply, by simp [hh], hcount⟩

/-- A device operation has the invariant when it is in an exchange of its own request, or between two (R24, R73). -/
theorem ControlInv.of_deviceOp {s : State} (he : ExchangeInv s) (hh : s.hstate = .busy) (hest : s.estate = .idle)
    (hown : (requestOfControl s).isSome) (hreq : s.xph ≠ .idle → requestOfControl s = some s.req)
    (hscan : s.curOp = 5 → 1 ≤ s.scanAddr.toNat ∧ s.scanAddr.toNat ≤ s.opAddr.toNat)
    (hcount : s.numValid = true → s.numDispensers.toNat ≤ 253) : ControlInv s := by
  obtain ⟨hsync, hone, htwo, hreply⟩ := he
  exact ⟨by simp [hh], fun _ => .inr ⟨hest, hown⟩, hreq, hsync, hone, htwo, hreply, fun _ => hscan, hcount⟩

/-- ASSIGN has the invariant outside every exchange (R24). -/
theorem ControlInv.of_assign {s : State} (he : ExchangeInv s) (hh : s.hstate = .busy) (hop : s.curOp = 1)
    (hest : s.estate ≠ .idle) (hx : s.xph = .idle) (hseq : s.seq = .none)
    (hcount : s.numValid = true → s.numDispensers.toNat ≤ 253) : ControlInv s := by
  obtain ⟨hsync, hone, htwo, hreply⟩ := he
  exact ⟨by simp [hh], fun _ => .inl ⟨hop, hest, hx, hseq⟩, by simp [hx], hsync, hone, htwo, hreply, by simp [hop], hcount⟩

/-- A busy engine with another command than ASSIGN runs no enumeration, and has a request of its own (R24). -/
theorem ControlInv.deviceOp_running {s : State} (hi : ControlInv s) (hh : s.hstate = .busy) (hop : s.curOp ≠ 1) :
    s.estate = .idle ∧ (requestOfControl s).isSome :=
  (hi.busyRuns hh).resolve_left fun h => hop h.1

/-- Only a device operation has a request of its own (R24, R210). -/
theorem seq_and_curOp_of_request {s : State} {f : Frame} (h : requestOfControl s = some f) :
    s.seq ≠ .none ∧ s.curOp ≠ 1 := by
  constructor <;> intro h' <;> simp [requestOfControl, h'] at h

theorem requestOfControl_execExchange {s t : State} (h : execExchange s = .next t) :
    requestOfControl t = requestOfControl s := by
  rw [execExchange_only h]
  rfl

/-- A step of the exchange of the command's own request keeps the invariant, its start included. -/
theorem ControlInv.execExchange {s t : State} (hi : ControlInv s) (hown : requestOfControl s = some s.req)
    (he : execExchange s = .next t) : ControlInv t := by
  obtain ⟨hseq, hop⟩ := seq_and_curOp_of_request hown
  have hh : s.hstate = .busy := by
    cases hs : s.hstate
    · exact absurd (hi.idleQuiet hs).2.2 hseq
    · rfl
  have hown' : requestOfControl t = some s.req := (requestOfControl_execExchange he).trans hown
  have hex := hi.exchange.execExchange he
  have hest := (hi.deviceOp_running hh hop).1
  have hscan := hi.scanRange hh
  have hcount := hi.countRange
  rw [execExchange_only he] at hown' hex ⊢
  exact .of_deviceOp hex hh hest (by rw [hown']; rfl) (fun _ => hown') hscan hcount

/-- Between exchanges the request buffer may be written (R73). -/
theorem ControlInv.writeRequest {s : State} (hi : ControlInv s) (hx : s.xph = .idle) (f : Frame) :
    ControlInv (writeRequest f s) :=
  ⟨hi.idleQuiet, hi.busyRuns, fun h => absurd hx h, hi.syncRxn, hi.phaseOne, hi.phaseTwo, hi.replySync, hi.scanRange,
    hi.countRange⟩

/-- The end of a device operation, between exchanges (R210, R223). -/
theorem ControlInv.endDeviceOp {s : State} (hi : ControlInv s) (hx : s.xph = .idle) (hest : s.estate = .idle)
    (ok : Bool) (a b : Byte) : ControlInv (endDeviceOp ok a b s) :=
  .of_idle hi.exchange rfl hx hest rfl hi.countRange

theorem ControlInv.takeTransmissionError {s : State} (hi : ControlInv s) (hx : s.xph = .idle) (hest : s.estate = .idle)
    (openA openB : Bool) : ControlInv (takeTransmissionError openA openB s) :=
  .of_idle hi.exchange rfl hx hest rfl hi.countRange

/-- Between exchanges a device operation may go on to its next exchange (R210). -/
theorem ControlInv.nextExchange {s : State} (hi : ControlInv s) (hx : s.xph = .idle) (hh : s.hstate = .busy)
    (hest : s.estate = .idle) (addr : Byte) (phase : SeqPhase)
    (hown : (requestOfControl { s with scanAddr := addr, seq := phase }).isSome)
    (hscan : s.curOp = 5 → 1 ≤ addr.toNat ∧ addr.toNat ≤ s.opAddr.toNat) :
    ControlInv { s with scanAddr := addr, seq := phase } :=
  .of_deviceOp hi.exchange hh hest hown (absurd hx) hscan hi.countRange

/-! ## The control invariant in a device operation -/

/-- The engine is busy with this command (R24, R103). -/
def Running (op : BitVec 3) (a : Byte) (d : Half) (s : State) : Prop :=
  s.hstate = .busy ∧ s.curOp = op ∧ s.opAddr = a ∧ s.opDur = d

theorem Running.execExchange {op : BitVec 3} {a : Byte} {d : Half} {s t : State} (h : Running op a d s)
    (he : execExchange s = .next t) : Running op a d t := by
  rw [execExchange_only he]
  exact h

/-- What `build` writes in a run of the command is the request of its control state (R73). -/
def BuildsOwnRequest (op : BitVec 3) (a : Byte) (d : Half) (build : State → Result) : Prop :=
  ∀ s u, Running op a d s → build s = .next u → ∃ f, requestOfControl s = some f ∧ u = writeRequest f s

/-- What `resume` does when an exchange of the command returns keeps the invariant. -/
def ResumeKeepsInv (op : BitVec 3) (a : Byte) (d : Half) (resume : State → Result) : Prop :=
  ∀ s t, ControlInv s → Running op a d s → s.xph = .idle → s.estate = .idle → resume s = .next t → ControlInv t

/-- One step of a BUILD and EXCHANGE pair keeps the invariant. -/
theorem ControlInv.drivePair {op : BitVec 3} {a : Byte} {d : Half} {build resume : State → Result} {s t : State}
    (hi : ControlInv s) (hrun : Running op a d s) (hop : op ≠ 1) (hbuild : BuildsOwnRequest op a d build)
    (hresume : ResumeKeepsInv op a d resume) (h : drivePair build resume s = .next t) : ControlInv t := by
  rcases drivePair_cases h with ⟨u, hx, hb, he⟩ | ⟨u, hx, he, hu⟩
  · obtain ⟨f, hf, rfl⟩ := hbuild s u hrun hb
    exact (hi.writeRequest hx f).execExchange hf he
  · have hiu := hi.execExchange (hi.requestStable hx) he
    rcases hu with ⟨-, rfl⟩ | ⟨hux, hr⟩
    · exact hiu
    · have hrunu := hrun.execExchange he
      have ⟨hbusy, hcur, _, _⟩ := hrunu
      obtain ⟨hest, -⟩ := hiu.deviceOp_running hbusy (hcur ▸ hop)
      exact hresume u t hiu hrunu hux hest hr

/-- One step of a device operation keeps the invariant. -/
theorem ControlInv.deviceOp {op : BitVec 3} {a : Byte} {d : Half} {begin : State → State} {build resume : State → Result}
    {s t : State} (hi : ControlInv s) (hop : op ≠ 1)
    (hbegin : s.hstate = .idle → ControlInv (begin (accept op a d s))) (hbuild : BuildsOwnRequest op a d build)
    (hresume : ResumeKeepsInv op a d resume) (h : deviceOp op a d begin build resume s = .next t) : ControlInv t := by
  rcases deviceOp_cases h with ⟨hh, rfl⟩ | ⟨hh, ho, ha, hd, hp⟩
  · exact hbegin hh
  · exact hi.drivePair ⟨hh, ho, ha, hd⟩ hop hbuild hresume hp

/-! What each operation does when it begins (R210, R214). -/

theorem ControlInv.beginCommand {s : State} (hi : ControlInv s) (hh : s.hstate = .idle) {op : BitVec 3} {a : Byte}
    {d : Half} (hown : (requestOfControl (beginCommand (accept op a d s))).isSome) (hop : op ≠ 5) :
    ControlInv (beginCommand (accept op a d s)) := by
  obtain ⟨hx, hest, -⟩ := hi.idleQuiet hh
  exact .of_deviceOp hi.exchange rfl hest hown (absurd hx) (absurd · hop) hi.countRange

theorem ControlInv.beginScan {s : State} (hi : ControlInv s) (hh : s.hstate = .idle) (count : Byte) (d : Half) :
    ControlInv (beginScan count (accept 5 count d s)) := by
  obtain ⟨hx, hest, -⟩ := hi.idleQuiet hh
  by_cases h0 : count = 0
  · rw [Machine.beginScan, if_pos h0]
    exact .of_idle hi.exchange rfl hx hest rfl hi.countRange
  · rw [Machine.beginScan, if_neg h0]
    refine .of_deviceOp hi.exchange rfl hest rfl (absurd hx) (fun _ => ⟨le_rfl, ?_⟩) hi.countRange
    change 1 ≤ count.toNat
    bv_omega

/-! The request each operation builds (R211 to R215). -/

theorem buildInCmd_ownRequest {op : BitVec 3} {a : Byte} {d : Half} {build : State → Result}
    (h : ∀ s u, Running op a d s → s.seq = .cmd → build s = .next u → ∃ f, requestOfControl s = some f ∧
      u = writeRequest f s) : BuildsOwnRequest op a d (buildInCmd build) := by
  intro s u hrun hb
  cases hseq : s.seq <;> simp only [buildInCmd, hseq] at hb
  case cmd => exact h s u hrun hseq hb
  all_goals cases hb

theorem buildTurnOn_ownRequest (addr : Byte) (d : Half) :
    BuildsOwnRequest 2 addr d (buildInCmd (execReqStart addr)) := by
  refine buildInCmd_ownRequest fun s u ⟨_, hop, ha, _⟩ hseq hb => ?_
  cases hb
  exact ⟨_, by simp [requestOfControl, hop, hseq, ha, placeholderFrame], rfl⟩

theorem buildTurnOff_ownRequest (addr : Byte) (d : Half) :
    BuildsOwnRequest 3 addr d (buildInCmd (execReqStop addr)) := by
  refine buildInCmd_ownRequest fun s u ⟨_, hop, ha, _⟩ hseq hb => ?_
  cases hb
  exact ⟨_, by simp [requestOfControl, hop, hseq, ha, placeholderFrame], rfl⟩

theorem buildDispense_ownRequest (addr : Byte) (d : Half) :
    BuildsOwnRequest 4 addr d (buildInCmd (execReqDispense addr d)) := by
  refine buildInCmd_ownRequest fun s u ⟨_, hop, ha, hd⟩ hseq hb => ?_
  cases hb
  exact ⟨_, by simp [requestOfControl, hop, hseq, ha, hd, dispenseFrame], rfl⟩

theorem buildScan_ownRequest (count : Byte) (d : Half) : BuildsOwnRequest 5 count d buildScan := by
  intro s u ⟨_, hop, _, _⟩ hb
  cases hseq : s.seq <;> simp only [buildScan, hseq] at hb <;> cases hb
  all_goals exact ⟨_, by simp [requestOfControl, hop, hseq, placeholderFrame], rfl⟩

theorem buildGetState_ownRequest (addr : Byte) (d : Half) : BuildsOwnRequest 6 addr d (buildGetState addr) := by
  intro s u ⟨_, hop, ha, _⟩ hb
  cases hseq : s.seq <;> simp only [buildGetState, hseq] at hb <;> cases hb
  all_goals exact ⟨_, by simp [requestOfControl, hop, hseq, ha, placeholderFrame], rfl⟩

/-! What each operation does when its exchange returns (R211 to R215). -/

theorem returnSuccess_keepsInv (op : BitVec 3) (a : Byte) (d : Half) : ResumeKeepsInv op a d returnSuccess := by
  intro s t hi _ hx hest h
  unfold returnSuccess at h
  split at h <;> cases h
  · exact hi.endDeviceOp hx hest _ _ _
  · exact hi.takeTransmissionError hx hest _ _

/-- The end test comes before the increment, so the next address is within the count (R32, R214). -/
theorem ControlInv.scanVerdict {s : State} {count : Byte} {d : Half} (hi : ControlInv s) (hrun : Running 5 count d s)
    (hx : s.xph = .idle) (hest : s.estate = .idle) : ControlInv (scanVerdict count s) := by
  obtain ⟨hh, hop, ha, -⟩ := hrun
  unfold Machine.scanVerdict
  split_ifs with hstatus hlast
  · exact hi.endDeviceOp hx hest _ _ _
  · exact hi.endDeviceOp hx hest _ _ _
  · refine hi.nextExchange hx hh hest (s.scanAddr + 1) .cmd (by simp [requestOfControl, hop]) fun _ => ?_
    have hrange := hi.scanRange hh hop
    rw [ha] at hrange ⊢
    bv_omega

theorem resumeScan_keepsInv (count : Byte) (d : Half) : ResumeKeepsInv 5 count d (resumeScan count) := by
  intro s t hi hrun hx hest h
  have ⟨hh, hop, _, _⟩ := hrun
  unfold resumeScan at h
  split at h
  · split at h <;> cases h
    · exact hi.nextExchange hx hh hest s.scanAddr .fetch (by simp [requestOfControl, hop]) (hi.scanRange hh)
    · exact hi.scanVerdict hrun hx hest
  · cases h
    exact hi.takeTransmissionError hx hest _ _

theorem resumeGetState_keepsInv (addr : Byte) (d : Half) : ResumeKeepsInv 6 addr d resumeGetState := by
  intro s t hi ⟨hh, hop, _, _⟩ hx hest h
  unfold resumeGetState at h
  split at h
  · split at h <;> cases h
    · exact hi.nextExchange hx hh hest s.scanAddr .fetch (by simp [requestOfControl, hop]) (hi.scanRange hh)
    · exact hi.endDeviceOp hx hest _ _ _
  · cases h
    exact hi.takeTransmissionError hx hest _ _

/-! ## The control invariant in the other commands -/

/-- A busy engine with ASSIGN is in no exchange and no device operation (R24). -/
theorem ControlInv.assign_running {s : State} (hi : ControlInv s) (hh : s.hstate = .busy) (hop : s.curOp = 1) :
    s.xph = .idle ∧ s.seq = .none := by
  rcases hi.busyRuns hh with ⟨-, -, hx, hseq⟩ | ⟨-, hown⟩
  · exact ⟨hx, hseq⟩
  · obtain ⟨f, hf⟩ := Option.isSome_iff_exists.mp hown
    exact absurd hop (seq_and_curOp_of_request hf).2

/-- A sentinel is neither 0x00 nor 0xFF, so the count it encodes is at most 253 (R193, R195). -/
theorem slaveCount_le {rx : Byte} (h : notYetAnswered rx = false) : (slaveCount rx).toNat ≤ 253 := by
  have hne : ¬(rx = 0x00 ∨ rx = 0xFF) := by rw [← notYetAnswered_iff, h]; decide
  obtain ⟨h0, hff⟩ := not_or.mp hne
  unfold slaveCount
  bv_omega

theorem ControlInv.execAssign {a : Byte} {d : Half} {s t : State} (hi : ControlInv s)
    (h : execAssign a d s = .next t) : ControlInv t := by
  rcases execAssign_cases h with ⟨hh, rfl⟩ | ⟨rx, hh, hop, -, -, rfl⟩ | ⟨rx, hh, hop, hest, -, hrx⟩
  · obtain ⟨hx, -, hseq⟩ := hi.idleQuiet hh
    exact .of_assign hi.exchange rfl rfl nofun hx hseq hi.countRange
  · obtain ⟨hx, hseq⟩ := hi.assign_running hh hop
    exact .of_assign hi.exchange hh hop nofun hx hseq hi.countRange
  · obtain ⟨hx, hseq⟩ := hi.assign_running hh hop
    rcases hrx with ⟨-, rfl⟩ | ⟨hsentinel, rfl⟩
    · exact .of_assign hi.exchange hh hop (by simp [hest]) hx hseq hi.countRange
    · exact .of_idle hi.exchange rfl hx rfl hseq fun _ => slaveCount_le hsentinel

theorem ControlInv.execSetDebug {level : Byte} {d : Half} {s t : State} (hi : ControlInv s)
    (h : execSetDebug level d s = .next t) : ControlInv t := by
  obtain ⟨hh, rfl⟩ := execSetDebug_cases h
  obtain ⟨hx, hest, hseq⟩ := hi.idleQuiet hh
  exact .of_idle hi.exchange rfl hx hest hseq hi.countRange

theorem ControlInv.execBusReset {a : Byte} {d : Half} {s t : State} (hi : ControlInv s)
    (h : execBusReset a d s = .next t) : ControlInv t := by
  obtain ⟨hh, rfl⟩ := execBusReset_cases h
  obtain ⟨hx, hest, hseq⟩ := hi.idleQuiet hh
  exact .of_idle hi.exchange rfl hx hest hseq nofun

/-- A command word decodes to a host command, never to a request frame or a micro-operation (R102, R104). -/
def IsCommand (i : Instr) : Prop := ∃ w, decodeCommand w = .instr i

/-- A word's command is one of the eight, with the word's own fields (R101, R102). -/
theorem IsCommand.cases {i : Instr} (h : IsCommand i) : ∃ a d,
    i = .busReset a d ∨ i = .assign a d ∨ i = .turnOn a d ∨ i = .turnOff a d ∨ i = .dispense a d ∨
      i = .checkAll a d ∨ i = .getState a d ∨ i = .setDebug a d := by
  obtain ⟨w, hw⟩ := h
  refine ⟨wordA w, wordD w, ?_⟩
  unfold decodeCommand at hw
  split at hw <;> cases hw <;> simp

/-- Every step of a host command keeps the invariant. -/
theorem ControlInv.exec {i : Instr} {s t : State} (hi : ControlInv s) (hc : IsCommand i)
    (h : exec i s = .next t) : ControlInv t := by
  obtain ⟨a, d, rfl | rfl | rfl | rfl | rfl | rfl | rfl | rfl⟩ := hc.cases
  · exact hi.execBusReset (a := a) (d := d) h
  · exact hi.execAssign h
  · exact hi.deviceOp (by decide) (hi.beginCommand · rfl (by decide)) (buildTurnOn_ownRequest a d)
      (returnSuccess_keepsInv 2 a d) h
  · exact hi.deviceOp (by decide) (hi.beginCommand · rfl (by decide)) (buildTurnOff_ownRequest a d)
      (returnSuccess_keepsInv 3 a d) h
  · exact hi.deviceOp (by decide) (hi.beginCommand · rfl (by decide)) (buildDispense_ownRequest a d)
      (returnSuccess_keepsInv 4 a d) h
  · exact hi.deviceOp (by decide) (hi.beginScan · a d) (buildScan_ownRequest a d) (resumeScan_keepsInv a d) h
  · exact hi.deviceOp (by decide) (hi.beginCommand · rfl (by decide)) (buildGetState_ownRequest a d)
      (resumeGetState_keepsInv a d) h
  · exact hi.execSetDebug h

theorem exchangeInv_reset : ExchangeInv State.reset := ⟨by decide, nofun, nofun, by decide⟩

/-- Engine reset leaves the invariant, from any state (R36, R290). -/
theorem controlInv_engineReset (s : State) : ControlInv (engineReset s) :=
  .of_idle exchangeInv_reset rfl rfl rfl rfl nofun

/-- The host's coming words are no part of the control state. -/
theorem ControlInv.withCmds {s : State} (hi : ControlInv s) (ws : List Word32) : ControlInv { s with cmds := ws } :=
  ⟨hi.idleQuiet, hi.busyRuns, hi.requestStable, hi.syncRxn, hi.phaseOne, hi.phaseTwo, hi.replySync, hi.scanRange,
    hi.countRange⟩

/-- Settles O49: a step is engine reset, a waiting engine, or a step of a host command. -/
theorem stepKeepsControlInv : Obligations.StepKeepsControlInv := by
  intro s t hi h
  rcases step_cases h with ⟨-, rfl⟩ | ⟨-, -, -, rfl⟩ | ⟨w, ws, i, -, -, -, hw, hexec⟩ | ⟨i, -, -, hw, hexec⟩
  · exact controlInv_engineReset s
  · exact hi
  · exact (hi.withCmds ws).exec ⟨w, hw⟩ hexec
  · exact hi.exec ⟨_, hw⟩ hexec

/-- Settles O48: the reset state is what engine reset leaves of itself. -/
theorem resetControlInv : Obligations.ResetControlInv := controlInv_engineReset State.reset

end Sys2Proof.Machine

namespace Sys2Proof.Machine

/-! ## The phases of an exchange (R25, R28, R152, R158) -/

/-- A transfer that leaves room in the reply: what it has done before the tests at the end of X_step. -/
theorem execExchange_beforeEnd {s : State} {tx rx : Byte} (hx : s.xph ≠ .idle) (htx : byteToSend s = some tx)
    (hrx : linkReturns tx s = some rx) (hroom : s.rxn.toNat < 5) :
    ∃ v, execExchange s = .next (settleExchange v) ∧ v.rxn ≠ 6 ∧ v.xph = s.xph ∧
      v.txi = (transferred tx rx s).txi ∧ v.success = s.success := by
  rcases execExchange_room hx htx hrx (by omega) with ⟨-, he⟩ | ⟨-, r, -, he⟩
  · refine ⟨_, he, ?_, by simp⟩
    rw [transferred_rxn]
    bv_omega
  · refine ⟨_, he, ?_, by simp⟩
    change s.rxn + 1 ≠ 6
    bv_omega

/-- Settles O14: with room in the reply only TXI can end phase 1, and only a sixth accepted byte ends the exchange. -/
theorem exchangePhases : Obligations.ExchangePhases := by
  intro s tx rx htx hrx
  refine ⟨fun hx htxi hroom => ?_, fun hx htxi hroom => ?_, fun hx hroom => ?_, fun hx hrxn hsync => ?_⟩
  · obtain ⟨v, he, hv, hvx, hvt, hvs⟩ := execExchange_beforeEnd (by simp [hx]) htx hrx hroom
    rw [transferred_txi_req hx] at hvt
    have hgoes : settleExchange v = v := settleExchange_goesOn hv fun h => by bv_omega
    exact ⟨v, by rw [← hgoes]; exact he, hvx.trans hx, hvs⟩
  · obtain ⟨v, he, hv, hvx, hvt, hvs⟩ := execExchange_beforeEnd (by simp [hx]) htx hrx hroom
    have hsix : v.txi = 6 := by rw [hvt, transferred_txi_req hx, htxi]; rfl
    rw [settleExchange_phaseEnd hv (hvx.trans hx) hsix] at he
    exact ⟨_, he, rfl, hsix, hvs⟩
  · obtain ⟨v, he, hv, hvx, -, hvs⟩ := execExchange_beforeEnd (by simp [hx]) htx hrx hroom
    have hgoes : settleExchange v = v := settleExchange_goesOn hv (by simp [hvx, hx])
    exact ⟨v, by rw [← hgoes]; exact he, hvx.trans hx, hvs⟩
  · have ha : acceptsByte (isFirstTransfer s) s.sync rx = true := by
      rw [isFirstTransfer_later (.inr hx), hsync]; rfl
    have hr : s.reply.set? s.rxn.toNat rx = some { s.reply with payload1 := rx } := by rw [hrxn]; rfl
    have he := execExchange_accept (by simp [hx]) htx hrx ha hr
    rw [settleExchange_full (by simp [hrxn])] at he
    exact ⟨_, he, rfl, by simp [hrxn]⟩

end Sys2Proof.Machine

namespace Sys2Proof.Machine

/-! ## What one step runs (R24, R39, R103, R290) -/

theorem step_reset {s : State} (hr : s.rst = true) : step s = .next (engineReset s) := by
  simp [step, hr]

theorem step_waits {s : State} (hr : s.rst = false) (hh : s.hstate = .idle) (hc : s.cmds = []) : step s = .next s := by
  simp [step, hr, fetch, hh, hc]

theorem step_offered {s : State} {w : Word32} {ws : List Word32} {i : Instr} (hr : s.rst = false) (hh : s.hstate = .idle)
    (hc : s.cmds = w :: ws) (hw : decodeCommand w = .instr i) : step s = exec i { s with cmds := ws } := by
  simp [step, hr, fetch_idle hh hc, hw]

theorem step_reserved {s : State} {w : Word32} {ws : List Word32} {r : Reject} (hr : s.rst = false)
    (hh : s.hstate = .idle) (hc : s.cmds = w :: ws) (hw : decodeCommand w = .rejected r) :
    step s = .refused (.notAccepted r) := by
  simp [step, hr, fetch_idle hh hc, hw]

theorem step_running {s : State} {i : Instr} (hr : s.rst = false) (hh : s.hstate = .busy)
    (hw : decodeCommand (latchedWord s) = .instr i) : step s = exec i s := by
  simp [step, hr, fetch_busy hh, hw]

/-- Settles O42: an idle engine fetches the offered word, a busy one the word its latches hold. -/
theorem stepRunsDecodedWord : Obligations.StepRunsDecodedWord :=
  ⟨fun _ _ _ _ hr hh hc hw => step_offered hr hh hc hw, fun _ _ hr hh hw => step_running hr hh hw⟩

/-- Settles O43: there is nothing to fetch. -/
theorem idleEngineWaits : Obligations.IdleEngineWaits := fun _ hr hh hc => step_waits hr hh hc

/-- Settles O46: the fields of the reset state. -/
theorem resetState : Obligations.ResetState := ⟨rfl, rfl, rfl, rfl, rfl, rfl⟩

/-! ## What the host reads (R29, R31) -/

theorem hostSlaveCount_valid {s : State} (hh : s.hstate = .idle) (hv : s.numValid = true) :
    hostSlaveCount s = some s.numDispensers := by
  simp [hostSlaveCount, hh, hv]

theorem hostSlaveCount_invalid {s : State} (hv : s.numValid = false) : hostSlaveCount s = none := by
  simp [hostSlaveCount, hv]

theorem hostReads_busy {s : State} (hh : s.hstate = .busy) : hostSlaveCount s = none ∧ hostResult s = none := by
  simp [hostSlaveCount, hostResult, hh]

theorem hostResult_written {s : State} (hh : s.hstate = .idle) (hw : s.resWritten = true) :
    hostResult s = some (s.resOk, s.resA, s.resB) := by
  simp [hostResult, hh, hw]

theorem hostResult_unwritten {s : State} (hw : s.resWritten = false) : hostResult s = none := by
  simp [hostResult, hw]

/-- The poll that receives a sentinel ends ASSIGN (R192, R193). -/
theorem step_sentinel {s : State} {rx : Byte} (hr : s.rst = false) (hh : s.hstate = .busy) (hop : s.curOp = 1)
    (hest : s.estate = .poll) (hl : linkReturns 0x00 s = some rx) (hrx : notYetAnswered rx = false) :
    step s = .next (endAssign { recordXfer 0x00 rx s with erx := rx }) := by
  have hw : decodeCommand (latchedWord s) = .instr (.assign s.opAddr s.opDur) := by
    rw [decodeCommand_latchedWord, hop]; rfl
  have hl' : linkReturns Config.fillerTx s = some rx := hl
  rw [step_running hr hh hw]
  simp only [exec, execAssign, hh, hest, if_pos (inProgress_iff.mpr ⟨hop, rfl, rfl⟩), pollStep, xfer_of_answer hl', hrx]
  rfl

/-- Settles O41: the two reads by their conditions, and what BUSRESET and the end of ASSIGN leave to read. -/
theorem hostReads : Obligations.HostReads := by
  refine ⟨fun _ => hostSlaveCount_valid, fun _ => hostSlaveCount_invalid, fun _ => hostReads_busy,
    fun _ => hostResult_written, fun _ => hostResult_unwritten, fun s t a d h => ?_,
    fun s rx hr hh hop hest hl h0 hff => ?_, hostSlaveCount_invalid rfl, hostResult_unwritten rfl⟩
  · obtain ⟨-, rfl⟩ := execBusReset_cases (a := a) (d := d) h
    exact ⟨hostSlaveCount_invalid rfl, hostResult_written rfl rfl⟩
  · have hrx : notYetAnswered rx = false := by
      rw [← Bool.not_eq_true, notYetAnswered_iff]
      exact not_or.mpr ⟨h0, hff⟩
    exact ⟨_, step_sentinel hr hh hop hest hl hrx, hostSlaveCount_valid rfl rfl, hostResult_written rfl rfl⟩

end Sys2Proof.Machine

namespace Sys2Proof.Machine

/-! ## Who writes the session and DEBUG_LEVEL (R29, R30, R219) -/

theorem sessionOf_eq_iff {s t : State} : sessionOf t = sessionOf s ↔
    t.params = s.params ∧ t.numDispensers = s.numDispensers ∧ t.numValid = s.numValid ∧ t.debugLevel = s.debugLevel := by
  simp [sessionOf]

theorem execAssign_debugLevel {a : Byte} {d : Half} {s t : State} (h : execAssign a d s = .next t) :
    t.debugLevel = s.debugLevel := by
  rcases execAssign_cases h with ⟨-, rfl⟩ | ⟨rx, -, -, -, -, rfl⟩ | ⟨rx, -, -, -, -, ⟨-, rfl⟩ | ⟨-, rfl⟩⟩ <;> rfl

/-- ASSIGN leaves the session alone, or its poll has received the sentinel and ends it with a valid count (R193). -/
theorem execAssign_session {a : Byte} {d : Half} {s t : State} (h : execAssign a d s = .next t) :
    (t.numDispensers = s.numDispensers ∧ t.numValid = s.numValid) ∨
    (s.hstate = .busy ∧ s.curOp = 1 ∧ s.estate = .poll ∧ t.hstate = .idle ∧ t.numValid = true) := by
  rcases execAssign_cases h with ⟨-, rfl⟩ | ⟨rx, -, -, -, -, rfl⟩ | ⟨rx, hh, hop, hest, -, ⟨-, rfl⟩ | ⟨-, rfl⟩⟩
  · exact .inl ⟨rfl, rfl⟩
  · exact .inl ⟨rfl, rfl⟩
  · exact .inl ⟨rfl, rfl⟩
  · exact .inr ⟨hh, hop, hest, rfl, rfl⟩

/-- Only ASSIGN writes the slave count. -/
theorem exec_numDispensers {i : Instr} {s t : State} (h : exec i s = .next t) (hassign : ∀ a d, i ≠ .assign a d) :
    t.numDispensers = s.numDispensers := by
  cases i with
  | assign a d => exact absurd rfl (hassign a d)
  | busReset a d => obtain ⟨-, rfl⟩ := execBusReset_cases (a := a) (d := d) h; rfl
  | setDebug level d => obtain ⟨-, rfl⟩ := execSetDebug_cases h; rfl
  | _ =>
    obtain ⟨-, hkept, -, -⟩ := sessionOf_eq_iff.mp (exec_keepsSession (by simp) (by simp) (by simp) _ _ h)
    exact hkept

/-- Only ASSIGN and BUSRESET write its validity. -/
theorem exec_numValid {i : Instr} {s t : State} (h : exec i s = .next t) (hassign : ∀ a d, i ≠ .assign a d)
    (hreset : ∀ a d, i ≠ .busReset a d) : t.numValid = s.numValid := by
  cases i with
  | assign a d => exact absurd rfl (hassign a d)
  | busReset a d => exact absurd rfl (hreset a d)
  | setDebug level d => obtain ⟨-, rfl⟩ := execSetDebug_cases h; rfl
  | _ =>
    obtain ⟨-, -, hkept, -⟩ := sessionOf_eq_iff.mp (exec_keepsSession (by simp) (by simp) (by simp) _ _ h)
    exact hkept

/-- Only SETDEBUG writes the debug level. -/
theorem exec_debugLevel {i : Instr} {s t : State} (h : exec i s = .next t) (hdebug : ∀ level d, i ≠ .setDebug level d) :
    t.debugLevel = s.debugLevel := by
  cases i with
  | setDebug level d => exact absurd rfl (hdebug level d)
  | busReset a d => obtain ⟨-, rfl⟩ := execBusReset_cases (a := a) (d := d) h; rfl
  | assign a d => exact execAssign_debugLevel h
  | _ =>
    obtain ⟨-, -, -, hkept⟩ := sessionOf_eq_iff.mp (exec_keepsSession (by simp) (by simp) (by simp) _ _ h)
    exact hkept

/-- From `s` to `t` the poll of ASSIGN has ended the command with a valid count (R193). -/
def EndsAssign (s t : State) : Prop :=
  s.hstate = .busy ∧ s.curOp = 1 ∧ s.estate = .poll ∧ t.hstate = .idle ∧ t.numValid = true

theorem exec_changes_numDispensers {i : Instr} {s t : State} (h : exec i s = .next t)
    (hne : t.numDispensers ≠ s.numDispensers) : EndsAssign s t := by
  by_cases hassign : ∃ a d, i = .assign a d
  · obtain ⟨a, d, rfl⟩ := hassign
    exact (execAssign_session h).resolve_left fun hkept => hne hkept.1
  · exact absurd (exec_numDispensers h fun a d hi => hassign ⟨a, d, hi⟩) hne

theorem exec_changes_numValid {i : Instr} {s t : State} (h : exec i s = .next t) (hne : t.numValid ≠ s.numValid) :
    EndsAssign s t ∨ (s.hstate = .idle ∧ t.numValid = false ∧ ∃ a d, i = .busReset a d) := by
  by_cases hassign : ∃ a d, i = .assign a d
  · obtain ⟨a, d, rfl⟩ := hassign
    exact .inl ((execAssign_session h).resolve_left fun hkept => hne hkept.2)
  by_cases hreset : ∃ a d, i = .busReset a d
  · obtain ⟨a, d, rfl⟩ := hreset
    obtain ⟨hh, rfl⟩ := execBusReset_cases (a := a) (d := d) h
    exact .inr ⟨hh, rfl, a, d, rfl⟩
  · exact absurd (exec_numValid h (fun a d hi => hassign ⟨a, d, hi⟩) fun a d hi => hreset ⟨a, d, hi⟩) hne

theorem exec_changes_debugLevel {i : Instr} {s t : State} (h : exec i s = .next t) (hne : t.debugLevel ≠ s.debugLevel) :
    s.hstate = .idle ∧ ∃ d, i = .setDebug t.debugLevel d := by
  by_cases hdebug : ∃ level d, i = .setDebug level d
  · obtain ⟨level, d, rfl⟩ := hdebug
    obtain ⟨hh, rfl⟩ := execSetDebug_cases h
    exact ⟨hh, d, rfl⟩
  · exact absurd (exec_debugLevel h fun level d hi => hdebug ⟨level, d, hi⟩) hne

/-- A step without engine reset that changes anything runs an instruction: the offered one, taken off the host's list,
or one of the busy engine (R24, R103). -/
theorem step_runs_of_ne {s t : State} (h : step s = .next t) (hr : s.rst = false) (hne : t ≠ s) :
    (∃ w ws i, s.cmds = w :: ws ∧ decodeCommand w = .instr i ∧ exec i { s with cmds := ws } = .next t) ∨
    (s.hstate = .busy ∧ ∃ i, exec i s = .next t) := by
  rcases step_cases h with ⟨hr', -⟩ | ⟨-, -, -, rfl⟩ | ⟨w, ws, i, -, -, hc, hw, he⟩ | ⟨i, -, hh, -, he⟩
  · simp [hr] at hr'
  · exact absurd rfl hne
  · exact .inl ⟨w, ws, i, hc, hw, he⟩
  · exact .inr ⟨hh, i, he⟩

theorem step_changes_numDispensers {s t : State} (h : step s = .next t) (hr : s.rst = false)
    (hne : t.numDispensers ≠ s.numDispensers) : EndsAssign s t := by
  rcases step_runs_of_ne h hr fun he => hne (by rw [he]) with ⟨w, ws, i, -, -, he⟩ | ⟨-, i, he⟩
  · exact exec_changes_numDispensers (s := { s with cmds := ws }) he hne
  · exact exec_changes_numDispensers he hne

theorem step_changes_numValid {s t : State} (h : step s = .next t) (hr : s.rst = false) (hne : t.numValid ≠ s.numValid) :
    EndsAssign s t ∨ (s.hstate = .idle ∧ t.numValid = false ∧
      ∃ w ws a d, s.cmds = w :: ws ∧ decodeCommand w = .instr (.busReset a d)) := by
  rcases step_runs_of_ne h hr fun he => hne (by rw [he]) with ⟨w, ws, i, hc, hw, he⟩ | ⟨hbusy, i, he⟩
  · rcases exec_changes_numValid (s := { s with cmds := ws }) he hne with hends | ⟨hh, ht, a, d, rfl⟩
    · exact .inl hends
    · exact .inr ⟨hh, ht, w, ws, a, d, hc, hw⟩
  · rcases exec_changes_numValid he hne with hends | ⟨hh, -⟩
    · exact .inl hends
    · simp [hbusy] at hh

theorem step_changes_debugLevel {s t : State} (h : step s = .next t) (hr : s.rst = false)
    (hne : t.debugLevel ≠ s.debugLevel) :
    s.hstate = .idle ∧ ∃ w ws d, s.cmds = w :: ws ∧ decodeCommand w = .instr (.setDebug t.debugLevel d) := by
  rcases step_runs_of_ne h hr fun he => hne (by rw [he]) with ⟨w, ws, i, hc, hw, he⟩ | ⟨hbusy, i, he⟩
  · obtain ⟨hh, d, rfl⟩ := exec_changes_debugLevel (s := { s with cmds := ws }) he hne
    exact ⟨hh, w, ws, d, hc, hw⟩
  · obtain ⟨hh, -⟩ := exec_changes_debugLevel he hne
    simp [hbusy] at hh

/-- Settles O57: what an instruction may write, what a changed field says of the step, and what engine reset leaves. -/
theorem sessionWriters : Obligations.SessionWriters := by
  refine ⟨fun s t i h => ⟨exec_numDispensers h, exec_numValid h, exec_debugLevel h⟩,
    fun s t h hr => ⟨step_changes_numDispensers h hr, step_changes_numValid h hr, step_changes_debugLevel h hr⟩,
    fun s t h hr => ?_⟩
  rw [step_reset hr] at h
  cases h
  exact ⟨rfl, rfl, rfl⟩

end Sys2Proof.Machine

namespace Sys2Proof.Machine

/-! ## The engine without its trace (R30) -/

/-- What `m` answers depends on DEBUG_LEVEL and the trace in nothing but them. -/
def Observational (m : State → Result) : Prop := ∀ s, untracedResult (m s) = untracedResult (m s.untraced)

/-- What `f` writes depends on DEBUG_LEVEL and the trace in nothing but them. -/
def ObservationalUpdate (f : State → State) : Prop := ∀ s, (f s).untraced = (f s.untraced).untraced

theorem Observational.congr {m : State → Result} (hm : Observational m) {s s' : State}
    (h : s.untraced = s'.untraced) : untracedResult (m s) = untracedResult (m s') := by
  rw [hm s, hm s', h]

theorem ObservationalUpdate.congr {f : State → State} (hf : ObservationalUpdate f) {s s' : State}
    (h : s.untraced = s'.untraced) : (f s).untraced = (f s').untraced := by
  rw [hf s, hf s', h]

theorem untracedResult_next {s s' : State} (h : s.untraced = s'.untraced) :
    untracedResult (.next s) = untracedResult (.next s') :=
  congrArg Host.Outcome.next h

/-! ### EXCHANGE -/

theorem execExchange_noByte {s : State} (hx : s.xph ≠ .idle) (htx : byteToSend s = none) :
    execExchange s = .fault .noSuchOffset := by
  simp [execExchange, hx, transferStep, htx]

theorem execExchange_silence {s : State} {tx : Byte} (hx : s.xph ≠ .idle) (htx : byteToSend s = some tx)
    (hrx : linkReturns tx s = none) : execExchange s = .fault .linkStalled := by
  simp [execExchange, hx, transferStep, htx, xfer_of_silence hrx]

theorem execExchange_noRoom {s : State} {tx rx : Byte} (hx : s.xph ≠ .idle) (htx : byteToSend s = some tx)
    (hrx : linkReturns tx s = some rx) (ha : acceptsByte (isFirstTransfer s) s.sync rx = true)
    (hr : s.reply.set? s.rxn.toNat rx = none) : execExchange s = .fault .noSuchOffset := by
  simp [execExchange, hx, transferStep, htx, xfer_of_answer hrx, afterTransfer, receiveByte, isFirstTransfer_recordXfer,
    ha, storeReply, hr]

theorem startExchange_observational : ObservationalUpdate startExchange := by
  intro s
  rw [startExchange_only, startExchange_only s.untraced]
  rfl

theorem transferred_observational (tx rx : Byte) : ObservationalUpdate (transferred tx rx) := by
  intro s
  by_cases hx : s.xph = .req
  · rw [transferred_of_req hx, transferred_of_req (s := s.untraced) hx]
    rfl
  · rw [transferred_of_fill hx, transferred_of_fill (s := s.untraced) hx]
    rfl

theorem settleExchange_observational : ObservationalUpdate settleExchange := by
  intro s
  simp only [settleExchange, apply_ite State.untraced]
  rfl

/-- The state before the tests at the end of X_step, when the answer is accepted (R155). -/
theorem untraced_accepted {u v : State} (h : u.untraced = v.untraced) (r : Frame) (n : BitVec 3) :
    ({ u with reply := r, rxn := n, sync := .accepting } : State).untraced =
      ({ v with reply := r, rxn := n, sync := .accepting } : State).untraced :=
  congrArg (fun w : State => { w with reply := r, rxn := n, sync := .accepting }) h

theorem execExchange_observational : Observational execExchange := by
  intro s
  by_cases hx : s.xph = .idle
  · rw [execExchange_idle hx, execExchange_idle (s := s.untraced) hx]
    exact untracedResult_next (startExchange_observational s)
  cases htx : byteToSend s with
  | none => rw [execExchange_noByte hx htx, execExchange_noByte (s := s.untraced) hx htx]
  | some tx =>
    cases hrx : linkReturns tx s with
    | none => rw [execExchange_silence hx htx hrx, execExchange_silence (s := s.untraced) hx htx hrx]
    | some rx =>
      have hsame := transferred_observational tx rx s
      cases ha : acceptsByte (isFirstTransfer s) s.sync rx with
      | false =>
        rw [execExchange_discard hx htx hrx ha, execExchange_discard (s := s.untraced) hx htx hrx ha]
        exact untracedResult_next (settleExchange_observational.congr hsame)
      | true =>
        cases hr : s.reply.set? s.rxn.toNat rx with
        | none => rw [execExchange_noRoom hx htx hrx ha hr, execExchange_noRoom (s := s.untraced) hx htx hrx ha hr]
        | some r =>
          rw [execExchange_accept hx htx hrx ha hr, execExchange_accept (s := s.untraced) hx htx hrx ha hr]
          exact untracedResult_next (settleExchange_observational.congr (untraced_accepted hsame r _))

/-! ### The sequencer -/

/-- The engine goes on from an answer; a stop stays a stop. -/
def andThen (r : Result) (k : State → Result) : Result :=
  match r with
  | .next t => k t
  | .fault f => .fault f
  | .refused f => .refused f

/-- Answers that agree without the trace go on to answers that do. -/
theorem Observational.andThen {k : State → Result} (hk : Observational k) {r r' : Result}
    (h : untracedResult r = untracedResult r') : untracedResult (andThen r k) = untracedResult (andThen r' k) := by
  cases r <;> cases r' <;> simp only [untracedResult, reduceCtorEq, Host.Outcome.next.injEq] at h
  · exact hk.congr h
  · exact h
  · exact h

/-- What the sequencer does after a transfer: nothing before the exchange has ended (R166). -/
def resumeWhenEnded (resume : State → Result) (t : State) : Result :=
  if t.xph = .idle then resume t else .next t

theorem drivePair_eq (build resume : State → Result) (s : State) :
    drivePair build resume s =
      if s.xph = .idle then andThen (build s) execExchange else andThen (execExchange s) (resumeWhenEnded resume) := by
  unfold drivePair
  rfl

theorem Observational.resumeWhenEnded {resume : State → Result} (hr : Observational resume) :
    Observational (resumeWhenEnded resume) := by
  intro s
  by_cases hx : s.xph = .idle
  · rw [Machine.resumeWhenEnded, Machine.resumeWhenEnded, if_pos hx, if_pos (show s.untraced.xph = .idle from hx)]
    exact hr s
  · rw [Machine.resumeWhenEnded, Machine.resumeWhenEnded, if_neg hx, if_neg (show s.untraced.xph ≠ .idle from hx)]
    rfl

theorem Observational.drivePair {build resume : State → Result} (hb : Observational build) (hr : Observational resume) :
    Observational (drivePair build resume) := by
  intro s
  rw [drivePair_eq, drivePair_eq]
  by_cases hx : s.xph = .idle
  · rw [if_pos hx, if_pos (show s.untraced.xph = .idle from hx)]
    exact execExchange_observational.andThen (hb s)
  · rw [if_neg hx, if_neg (show s.untraced.xph ≠ .idle from hx)]
    exact hr.resumeWhenEnded.andThen (execExchange_observational s)

theorem deviceOp_otherCommand {op : BitVec 3} {a : Byte} {d : Half} {begin : State → State}
    {build resume : State → Result} {s : State} (hh : s.hstate = .busy) (hp : inProgress op a d s = false) :
    deviceOp op a d begin build resume s = .refused .commandWhileBusy := by
  simp [deviceOp, hh, hp]

theorem accept_observational (op : BitVec 3) (a : Byte) (d : Half) : ObservationalUpdate (accept op a d) := fun _ => rfl

theorem Observational.deviceOp {op : BitVec 3} {a : Byte} {d : Half} {begin : State → State}
    {build resume : State → Result} (hbegin : ObservationalUpdate begin) (hb : Observational build)
    (hr : Observational resume) : Observational (deviceOp op a d begin build resume) := by
  intro s
  cases hh : s.hstate with
  | idle =>
    rw [deviceOp_idle hh, deviceOp_idle (s := s.untraced) hh]
    exact untracedResult_next (hbegin.congr (accept_observational op a d s))
  | busy =>
    cases hp : inProgress op a d s with
    | false => rw [deviceOp_otherCommand hh hp, deviceOp_otherCommand (s := s.untraced) hh hp]
    | true =>
      obtain ⟨hop, ha, hd⟩ := inProgress_iff.mp hp
      rw [deviceOp_busy hh hop ha hd, deviceOp_busy (s := s.untraced) hh hop ha hd]
      exact hb.drivePair hr s

theorem execBuild_observational (kind : Kind) (addr p0 p1 : Byte) : Observational (execBuild kind addr p0 p1) :=
  fun _ => rfl

theorem execReqDispense_observational (addr : Byte) (d : Half) : Observational (execReqDispense addr d) := fun _ => rfl

/-! Each of these decides by SUCCESS, SEQ or the scan's address and count, which `untraced` leaves alone. -/

@[simp] theorem untraced_seq (s : State) : s.untraced.seq = s.seq := rfl
@[simp] theorem untraced_success (s : State) : s.untraced.success = s.success := rfl
@[simp] theorem untraced_hstate (s : State) : s.untraced.hstate = s.hstate := rfl
@[simp] theorem untraced_estate (s : State) : s.untraced.estate = s.estate := rfl
@[simp] theorem untraced_inProgress (op : BitVec 3) (a : Byte) (d : Half) (s : State) :
    inProgress op a d s.untraced = inProgress op a d s := rfl

theorem beginCommand_observational : ObservationalUpdate beginCommand := fun _ => rfl

theorem Observational.buildInCmd {build : State → Result} (hb : Observational build) :
    Observational (buildInCmd build) := by
  intro s
  cases hs : s.seq <;> simp only [Machine.buildInCmd, untraced_seq, hs]
  case cmd => exact hb s

theorem buildScan_observational : Observational buildScan := by
  intro s
  cases hs : s.seq <;> simp only [buildScan, untraced_seq, hs] <;> rfl

theorem buildGetState_observational (addr : Byte) : Observational (buildGetState addr) := by
  intro s
  cases hs : s.seq <;> simp only [buildGetState, untraced_seq, hs] <;> rfl

theorem returnSuccess_observational : Observational returnSuccess := by
  intro s
  cases hs : s.success <;> simp only [returnSuccess, untraced_success, hs] <;> rfl

theorem beginScan_observational (count : Byte) : ObservationalUpdate (beginScan count) := by
  intro s
  simp only [beginScan, apply_ite State.untraced]
  rfl

theorem scanVerdict_observational (count : Byte) : ObservationalUpdate (scanVerdict count) := by
  intro s
  simp only [scanVerdict, apply_ite State.untraced]
  rfl

theorem resumeScan_observational (count : Byte) : Observational (resumeScan count) := by
  intro s
  cases hs : s.seq with
  | none | cmd =>
    simp only [resumeScan, untraced_success, untraced_seq, hs]
    split_ifs <;> rfl
  | fetch =>
    simp only [resumeScan, untraced_success, untraced_seq, hs]
    split_ifs
    · exact untracedResult_next (scanVerdict_observational count s)
    · rfl

theorem resumeGetState_observational : Observational resumeGetState := by
  intro s
  cases hs : s.seq <;> simp only [resumeGetState, untraced_success, untraced_seq, hs] <;> split_ifs <;> rfl

/-! ### The commands without an exchange -/

theorem Observational.xfer {k : Byte → State → Result} (hk : ∀ rx, Observational (k rx)) (tx : Byte) :
    Observational (xfer tx k) := by
  intro s
  cases hrx : linkReturns tx s with
  | none => rw [xfer_of_silence hrx, xfer_of_silence (s := s.untraced) hrx]
  | some rx =>
    rw [xfer_of_answer hrx, xfer_of_answer (s := s.untraced) hrx]
    exact (hk rx).congr rfl

theorem primerStep_observational : Observational primerStep := fun s =>
  Observational.xfer (k := fun _ t => .next { t with estate := .poll }) (fun _ _ => rfl) s.params.primer s

theorem pollStep_observational : Observational pollStep := by
  refine Observational.xfer (fun rx s => ?_) Config.fillerTx
  split <;> rfl

theorem execAssign_observational (a : Byte) (d : Half) : Observational (execAssign a d) := by
  intro s
  cases hh : s.hstate with
  | idle =>
    simp only [execAssign, untraced_hstate, hh]
    rfl
  | busy =>
    simp only [execAssign, untraced_hstate, hh]
    cases hp : inProgress 1 a d s with
    | false => simp only [untraced_inProgress, hp, Bool.false_eq_true, if_false]
    | true =>
      simp only [untraced_inProgress, hp, if_true, untraced_estate]
      cases s.estate with
      | idle => rfl
      | primer => exact primerStep_observational s
      | poll => exact pollStep_observational s

theorem execSetDebug_observational (level : Byte) (d : Half) : Observational (execSetDebug level d) := by
  intro s
  cases hh : s.hstate <;> simp only [execSetDebug, untraced_hstate, hh]
  all_goals rfl

theorem execBusReset_observational (a : Byte) (d : Half) : Observational (execBusReset a d) := by
  intro s
  cases hh : s.hstate <;> simp only [execBusReset, untraced_hstate, hh]
  all_goals rfl

theorem exec_observational (i : Instr) : Observational (exec i) := by
  cases i with
  | reqStart | reqStop | reqCheck | reqGetState | reqResponse | build => exact execBuild_observational _ _ _ _
  | reqDispense addr d => exact execReqDispense_observational addr d
  | exchange => exact execExchange_observational
  | busReset a d => exact execBusReset_observational a d
  | assign a d => exact execAssign_observational a d
  | setDebug level d => exact execSetDebug_observational level d
  | turnOn | turnOff =>
    exact .deviceOp beginCommand_observational (execBuild_observational _ _ _ _).buildInCmd returnSuccess_observational
  | dispense addr d =>
    exact .deviceOp beginCommand_observational (execReqDispense_observational addr d).buildInCmd
      returnSuccess_observational
  | checkAll count d =>
    exact .deviceOp (beginScan_observational count) buildScan_observational (resumeScan_observational count)
  | getState addr d =>
    exact .deviceOp beginCommand_observational (buildGetState_observational addr) resumeGetState_observational

theorem step_observational : Observational step := by
  intro s
  cases hr : s.rst with
  | true =>
    rw [step_reset hr, step_reset (s := s.untraced) hr]
    rfl
  | false =>
    cases hh : s.hstate with
    | busy =>
      rw [step_running hr hh (decodeCommand_latchedWord s),
        step_running (s := s.untraced) hr hh (decodeCommand_latchedWord s)]
      exact exec_observational _ s
    | idle =>
      cases hc : s.cmds with
      | nil =>
        rw [step_waits hr hh hc, step_waits (s := s.untraced) hr hh hc]
        rfl
      | cons w ws =>
        cases hw : decodeCommand w with
        | instr i =>
          rw [step_offered hr hh hc hw, step_offered (s := s.untraced) hr hh hc hw]
          exact exec_observational i { s with cmds := ws }
        | rejected r => rw [step_reserved hr hh hc hw, step_reserved (s := s.untraced) hr hh hc hw]

/-- Settles O55: a step commutes with forgetting DEBUG_LEVEL and the trace. -/
theorem debugLevelObservational : Obligations.DebugLevelObservational := fun _ _ h => step_observational.congr h

end Sys2Proof.Machine

namespace Sys2Proof.Machine

/-! ## The link and the duration (R62, R66, R67, R96) -/

/-- Settles O5: the two halves of the duration in both orders. -/
theorem durationBytes : Obligations.DurationBytes :=
  fun d o => ⟨payloadDuration_durationPayload o d, rfl, rfl⟩

/-- After the listed answers the oracle's answer is the opaque constant's (R67, log entry 4). -/
theorem linkReturns_oracle {s : State} (h : s.script = []) (ht : s.tail = .oracle) (tx : Byte) :
    linkReturns tx s = Config.linkAnswer s.wire tx := by
  simp [linkReturns, h, ht]

/-- Settles O8: the listed answer, or what the tail says. -/
theorem linkAnswers : Obligations.LinkAnswers :=
  fun _ tx => ⟨fun _ _ hs => linkReturns_cons hs tx, fun hs => ⟨fun _ ht => linkReturns_repeats hs ht tx,
    fun ht => linkReturns_stalled hs ht tx, fun ht => linkReturns_oracle hs ht tx⟩⟩

/-- Whether its answer is discarded or accepted, a transfer is one event on the wire and takes one answer (R66 a). -/
theorem execExchange_transfer {s : State} {tx rx : Byte} (hx : s.xph ≠ .idle) (htx : byteToSend s = some tx)
    (hrx : linkReturns tx s = some rx) (hroom : s.rxn.toNat < 6) :
    ∃ t, execExchange s = .next t ∧ t.wire = s.wire ++ [.xfer tx rx] ∧ t.txi = (transferred tx rx s).txi ∧
      t.script = s.script.tail := by
  rcases execExchange_room hx htx hrx hroom with ⟨-, he⟩ | ⟨-, r, -, he⟩
  · exact ⟨_, he, by simp⟩
  · exact ⟨_, he, by simp⟩

/-- Settles O10: the byte to send is REQ[TXI] in phase 1, which counts it, and the filler in phase 2, which does not. -/
theorem exchangeTransmits : Obligations.ExchangeTransmits := by
  intro s tx rx hroom hrx
  refine ⟨fun hx htx => ?_, fun hx htx => ?_⟩
  · rw [← transferred_txi_req hx tx rx]
    exact execExchange_transfer (by simp [hx]) ((byteToSend_req hx).trans htx) hrx hroom
  · rw [← transferred_txi_fill (by simp [hx]) tx rx]
    exact execExchange_transfer (by simp [hx]) ((byteToSend_fill hx).trans (by rw [htx])) hrx hroom

end Sys2Proof.Machine

namespace Sys2Proof.Machine

/-! ## The wire (R66, R70) -/

/-- Whatever next state `m` answers, it has added at most one event to the wire. -/
def WireGrows (m : State → Result) : Prop :=
  ∀ s t, m s = .next t → ∃ evs : List WireEvent, t.wire = s.wire ++ evs ∧ evs.length ≤ 1

/-- Whatever next state `m` answers, the wire is as before. -/
def KeepsWire (m : State → Result) : Prop := ∀ s t, m s = .next t → t.wire = s.wire

theorem wire_unchanged {s t : State} (h : t.wire = s.wire) :
    ∃ evs : List WireEvent, t.wire = s.wire ++ evs ∧ evs.length ≤ 1 :=
  ⟨[], by simp [h], by simp⟩

theorem wire_oneEvent {s t : State} {e : WireEvent} (h : t.wire = s.wire ++ [e]) :
    ∃ evs : List WireEvent, t.wire = s.wire ++ evs ∧ evs.length ≤ 1 :=
  ⟨[e], h, le_rfl⟩

theorem KeepsWire.wireGrows {m : State → Result} (hm : KeepsWire m) : WireGrows m :=
  fun s t h => wire_unchanged (hm s t h)

theorem execBuild_keepsWire (kind : Kind) (addr p0 p1 : Byte) : KeepsWire (execBuild kind addr p0 p1) := by
  intro s t h
  cases h
  rfl

theorem execReqDispense_keepsWire (addr : Byte) (d : Half) : KeepsWire (execReqDispense addr d) :=
  fun s t h => execBuild_keepsWire _ _ _ _ s t h

theorem KeepsWire.buildInCmd {build : State → Result} (hb : KeepsWire build) : KeepsWire (buildInCmd build) := by
  intro s t h
  cases hs : s.seq <;> simp only [Machine.buildInCmd, hs] at h
  case cmd => exact hb s t h
  all_goals cases h

theorem buildScan_keepsWire : KeepsWire buildScan := by
  intro s t h
  cases hs : s.seq <;> simp only [buildScan, hs] at h <;> cases h <;> rfl

theorem buildGetState_keepsWire (addr : Byte) : KeepsWire (buildGetState addr) := by
  intro s t h
  cases hs : s.seq <;> simp only [buildGetState, hs] at h <;> cases h <;> rfl

theorem returnSuccess_keepsWire : KeepsWire returnSuccess := by
  intro s t h
  unfold returnSuccess at h
  split at h <;> cases h <;> rfl

theorem beginScan_wire (count : Byte) (s : State) : (beginScan count s).wire = s.wire := by
  unfold beginScan; split_ifs <;> rfl

theorem scanVerdict_wire (count : Byte) (s : State) : (scanVerdict count s).wire = s.wire := by
  unfold scanVerdict; split_ifs <;> rfl

theorem resumeScan_keepsWire (count : Byte) : KeepsWire (resumeScan count) := by
  intro s t h
  unfold resumeScan at h
  split at h
  · split at h <;> cases h
    · rfl
    · exact scanVerdict_wire count s
  · cases h
    rfl

theorem resumeGetState_keepsWire : KeepsWire resumeGetState := by
  intro s t h
  unfold resumeGetState at h
  split at h
  · split at h <;> cases h <;> rfl
  · cases h
    rfl

theorem execExchange_wireGrows : WireGrows execExchange := by
  intro s t h
  rcases execExchange_cases h with ⟨-, rfl⟩ | ⟨tx, rx, -, -, -, ⟨-, rfl⟩ | ⟨r, -, -, rfl⟩⟩
  · exact wire_unchanged (startExchange_wire s)
  · exact wire_oneEvent (e := .xfer tx rx) (by simp)
  · exact wire_oneEvent (e := .xfer tx rx) (by simp)

/-- Of a BUILD and EXCHANGE pair only EXCHANGE makes transfers (R66, R210). -/
theorem WireGrows.drivePair {build resume : State → Result} (hb : KeepsWire build) (hr : KeepsWire resume) :
    WireGrows (drivePair build resume) := by
  intro s t h
  rcases drivePair_cases h with ⟨u, -, hbuild, hstart⟩ | ⟨u, -, hxfer, ⟨-, rfl⟩ | ⟨-, hresume⟩⟩
  · rw [← hb s u hbuild]
    exact execExchange_wireGrows u t hstart
  · exact execExchange_wireGrows s t hxfer
  · rw [hr u t hresume]
    exact execExchange_wireGrows s u hxfer

theorem WireGrows.deviceOp {op : BitVec 3} {a : Byte} {d : Half} {begin : State → State} {build resume : State → Result}
    (hbegin : ∀ s, (begin s).wire = s.wire) (hb : KeepsWire build) (hr : KeepsWire resume) :
    WireGrows (deviceOp op a d begin build resume) := by
  intro s t h
  rcases deviceOp_cases h with ⟨-, rfl⟩ | ⟨-, -, -, -, hpair⟩
  · exact wire_unchanged (hbegin _)
  · exact WireGrows.drivePair hb hr s t hpair

theorem execAssign_wireGrows (a : Byte) (d : Half) : WireGrows (execAssign a d) := by
  intro s t h
  rcases execAssign_cases h with ⟨-, rfl⟩ | ⟨rx, -, -, -, -, rfl⟩ | ⟨rx, -, -, -, -, ⟨-, rfl⟩ | ⟨-, rfl⟩⟩
  · exact wire_unchanged rfl
  · exact wire_oneEvent rfl
  · exact wire_oneEvent rfl
  · exact wire_oneEvent rfl

/-- No instruction's step takes an event back or adds two (R66, R70). -/
theorem exec_wireGrows (i : Instr) : WireGrows (exec i) := by
  cases i with
  | reqStart | reqStop | reqCheck | reqGetState | reqResponse | build => exact (execBuild_keepsWire _ _ _ _).wireGrows
  | reqDispense addr d => exact (execReqDispense_keepsWire addr d).wireGrows
  | exchange => exact execExchange_wireGrows
  | busReset a d =>
    intro s t h
    obtain ⟨-, rfl⟩ := execBusReset_cases (a := a) (d := d) h
    exact wire_oneEvent rfl
  | setDebug level d =>
    intro s t h
    obtain ⟨-, rfl⟩ := execSetDebug_cases h
    exact wire_unchanged rfl
  | assign a d => exact execAssign_wireGrows a d
  | turnOn | turnOff =>
    exact .deviceOp (fun _ => rfl) (execBuild_keepsWire _ _ _ _).buildInCmd returnSuccess_keepsWire
  | dispense addr d =>
    exact .deviceOp (fun _ => rfl) (execReqDispense_keepsWire addr d).buildInCmd returnSuccess_keepsWire
  | checkAll count d => exact .deviceOp (beginScan_wire count) buildScan_keepsWire (resumeScan_keepsWire count)
  | getState addr d => exact .deviceOp (fun _ => rfl) (buildGetState_keepsWire addr) resumeGetState_keepsWire

/-- Settles O58: engine reset and a waiting engine leave the wire alone, and an instruction adds at most one event. -/
theorem wireGrowsByOne : Obligations.WireGrowsByOne := by
  intro s t h
  rcases step_cases h with ⟨-, rfl⟩ | ⟨-, -, -, rfl⟩ | ⟨w, ws, i, -, -, -, -, hexec⟩ | ⟨i, -, -, -, hexec⟩
  · exact wire_unchanged rfl
  · exact wire_unchanged rfl
  · exact exec_wireGrows i { s with cmds := ws } t hexec
  · exact exec_wireGrows i s t hexec

end Sys2Proof.Machine

namespace Sys2Proof.Machine

/-! ## Where a step stops (R60, R66 e, R103, R166, R198, R223) -/

/-- The answer hangs on one transfer: with the link's answer it is a next state, without it the engine is stuck (R66 e). -/
def WaitsForLink (s : State) (r : Result) : Prop :=
  ∃ tx, ((linkReturns tx s).isSome ∧ ∃ t, r = .next t) ∨ (linkReturns tx s = none ∧ r = .fault .linkStalled)

theorem xfer_waitsForLink {k : Byte → State → Result} (hk : ∀ rx u, ∃ t, k rx u = .next t) (tx : Byte) (s : State) :
    WaitsForLink s (xfer tx k s) := by
  refine ⟨tx, ?_⟩
  cases hrx : linkReturns tx s with
  | none => exact .inr ⟨rfl, xfer_of_silence hrx k⟩
  | some rx => exact .inl ⟨rfl, by rw [xfer_of_answer hrx]; exact hk _ _⟩

/-! ### ASSIGN -/

theorem execAssign_primer {a : Byte} {d : Half} {s : State} (h : Running 1 a d s) (hest : s.estate = .primer) :
    execAssign a d s = primerStep s := by
  obtain ⟨hh, hop, ha, hd⟩ := h
  simp [execAssign, hh, inProgress, hop, ha, hd, hest]

theorem execAssign_poll {a : Byte} {d : Half} {s : State} (h : Running 1 a d s) (hest : s.estate = .poll) :
    execAssign a d s = pollStep s := by
  obtain ⟨hh, hop, ha, hd⟩ := h
  simp [execAssign, hh, inProgress, hop, ha, hd, hest]

theorem execAssign_noEnumeration {a : Byte} {d : Half} {s : State} (h : Running 1 a d s) (hest : s.estate = .idle) :
    execAssign a d s = .fault .noEnabledStep := by
  obtain ⟨hh, hop, ha, hd⟩ := h
  simp [execAssign, hh, inProgress, hop, ha, hd, hest]

theorem primerStep_waitsForLink (s : State) : WaitsForLink s (primerStep s) :=
  xfer_waitsForLink (fun _ _ => ⟨_, rfl⟩) _ s

theorem pollStep_waitsForLink (s : State) : WaitsForLink s (pollStep s) :=
  xfer_waitsForLink (fun rx u => by split <;> exact ⟨_, rfl⟩) _ s

theorem execAssign_waitsForLink {a : Byte} {d : Half} {s : State} (h : Running 1 a d s) (hest : s.estate ≠ .idle) :
    WaitsForLink s (execAssign a d s) := by
  cases he : s.estate with
  | idle => exact absurd he hest
  | primer => rw [execAssign_primer h he]; exact primerStep_waitsForLink s
  | poll => rw [execAssign_poll h he]; exact pollStep_waitsForLink s

/-! ### A device operation -/

/-- With the invariant a transfer has a byte to send and the reply has room (R60, R157). -/
theorem ExchangeInv.room {s : State} (h : ExchangeInv s) (hx : s.xph ≠ .idle) :
    (∃ tx, byteToSend s = some tx) ∧ s.rxn.toNat < 6 := by
  obtain ⟨-, hreq, hfill, -⟩ := h
  cases hp : s.xph with
  | idle => exact absurd hp hx
  | req =>
    obtain ⟨htxi, hrxn⟩ := hreq hp
    have hlen : s.txi.toNat < s.req.bytes.length := htxi
    exact ⟨⟨_, (byteToSend_req hp).trans (List.getElem?_eq_getElem hlen)⟩, by omega⟩
  | fill => exact ⟨⟨_, byteToSend_fill hp⟩, (hfill hp).2⟩

theorem ExchangeInv.execExchange_waitsForLink {s : State} (h : ExchangeInv s) (hx : s.xph ≠ .idle) :
    WaitsForLink s (Machine.execExchange s) := by
  obtain ⟨⟨tx, htx⟩, hroom⟩ := h.room hx
  refine ⟨tx, ?_⟩
  cases hrx : linkReturns tx s with
  | none => exact .inr ⟨rfl, execExchange_silence hx htx hrx⟩
  | some rx =>
    obtain ⟨t, he, -⟩ := execExchange_transfer hx htx hrx hroom
    exact .inl ⟨rfl, t, he⟩

theorem drivePair_transferFault {s : State} {build resume : State → Result} {f : Fault} (hx : s.xph ≠ .idle)
    (he : execExchange s = .fault f) : drivePair build resume s = .fault f := by
  simp [drivePair, hx, he]

theorem drivePair_buildFault {s : State} {build resume : State → Result} {f : Fault} (hx : s.xph = .idle)
    (hb : build s = .fault f) : drivePair build resume s = .fault f := by
  simp [drivePair, hx, hb]

/-- The sequencer has a rule for the state it is in: a request to build, and something to do on the exchange's return,
where SEQ is as it was (R210). -/
def HasRules (build resume : State → Result) (s : State) : Prop :=
  (∃ f, build s = .next (writeRequest f s)) ∧ ∀ u, u.seq = s.seq → ∃ t, resume u = .next t

/-- Between two exchanges the next step makes no transfer (R151, R166). -/
theorem HasRules.drivePair_starts {build resume : State → Result} {s : State} (h : HasRules build resume s)
    (hx : s.xph = .idle) : ∃ t, drivePair build resume s = .next t := by
  obtain ⟨⟨f, hb⟩, -⟩ := h
  exact ⟨_, (drivePair_idle hx hb).trans (execExchange_idle hx)⟩

theorem HasRules.drivePair_waitsForLink {build resume : State → Result} {s : State} (h : HasRules build resume s)
    (hi : ExchangeInv s) (hx : s.xph ≠ .idle) : WaitsForLink s (drivePair build resume s) := by
  obtain ⟨-, hresume⟩ := h
  obtain ⟨tx, ⟨hl, u, he⟩ | ⟨hl, he⟩⟩ := hi.execExchange_waitsForLink hx
  · refine ⟨tx, .inl ⟨hl, ?_⟩⟩
    have hseq : u.seq = s.seq := by rw [execExchange_only he]
    obtain ⟨t, ht⟩ := hresume u hseq
    rw [drivePair_transfer hx he]
    split_ifs
    · exact ⟨t, ht⟩
    · exact ⟨u, rfl⟩
  · exact ⟨tx, .inr ⟨hl, drivePair_transferFault hx he⟩⟩

theorem returnSuccess_goesOn (s : State) : ∃ t, returnSuccess s = .next t := by
  unfold returnSuccess
  split <;> exact ⟨_, rfl⟩

theorem resumeScan_goesOn (count : Byte) {s : State} (h : s.seq ≠ .none) : ∃ t, resumeScan count s = .next t := by
  cases hs : s.seq with
  | none => exact absurd hs h
  | cmd | fetch =>
    simp only [resumeScan, hs]
    split <;> exact ⟨_, rfl⟩

theorem resumeGetState_goesOn {s : State} (h : s.seq ≠ .none) : ∃ t, resumeGetState s = .next t := by
  cases hs : s.seq with
  | none => exact absurd hs h
  | cmd | fetch =>
    simp only [resumeGetState, hs]
    split <;> exact ⟨_, rfl⟩

/-- A one-exchange operation has a rule in S_CMD (R211 to R213). -/
theorem hasRules_oneExchange (build : State → Result) {s : State} (hb : ∃ f, build s = .next (writeRequest f s))
    (hseq : s.seq = .cmd) : HasRules (buildInCmd build) returnSuccess s := by
  refine ⟨?_, fun u _ => returnSuccess_goesOn u⟩
  simpa only [buildInCmd, hseq] using hb

/-- CHECKALL has a rule in S_CMD and in S_FETCH (R214). -/
theorem hasRules_scan (count : Byte) {s : State} (hseq : s.seq ≠ .none) : HasRules buildScan (resumeScan count) s := by
  refine ⟨?_, fun u hu => resumeScan_goesOn count (hu ▸ hseq)⟩
  cases hs : s.seq with
  | none => exact absurd hs hseq
  | cmd | fetch => exact ⟨_, by simp only [buildScan, hs]; rfl⟩

/-- GETSTATE has a rule in S_CMD and in S_FETCH (R215). -/
theorem hasRules_getState (addr : Byte) {s : State} (hseq : s.seq ≠ .none) :
    HasRules (buildGetState addr) resumeGetState s := by
  refine ⟨?_, fun u hu => resumeGetState_goesOn (hu ▸ hseq)⟩
  cases hs : s.seq with
  | none => exact absurd hs hseq
  | cmd | fetch => exact ⟨_, by simp only [buildGetState, hs]; rfl⟩

/-- The command and the phase in which a device operation has a request of its own (R211 to R215). -/
theorem curOp_of_request {s : State} (h : (requestOfControl s).isSome) :
    (s.seq = .cmd ∧ (s.curOp = 2 ∨ s.curOp = 3 ∨ s.curOp = 4)) ∨ (s.seq ≠ .none ∧ (s.curOp = 5 ∨ s.curOp = 6)) := by
  have hc : ∀ n : BitVec 3, s.curOp.toNat = n.toNat → s.curOp = n := fun n hn => BitVec.eq_of_toNat_eq hn
  unfold requestOfControl at h
  split at h
  next hop hseq => exact .inl ⟨hseq, .inl (hc 2 hop)⟩
  next hop hseq => exact .inl ⟨hseq, .inr (.inl (hc 3 hop))⟩
  next hop hseq => exact .inl ⟨hseq, .inr (.inr (hc 4 hop))⟩
  next hop hseq => exact .inr ⟨by simp [hseq], .inl (hc 5 hop)⟩
  next hop hseq => exact .inr ⟨by simp [hseq], .inl (hc 5 hop)⟩
  next hop hseq => exact .inr ⟨by simp [hseq], .inr (hc 6 hop)⟩
  next hop hseq => exact .inr ⟨by simp [hseq], .inr (hc 6 hop)⟩
  next => cases h

theorem step_deviceOp {s : State} {i : Instr} {op : BitVec 3} {begin : State → State} {build resume : State → Result}
    (hr : s.rst = false) (hh : s.hstate = .busy) (hop : s.curOp = op) (hw : decodeCommand (latchedWord s) = .instr i)
    (hexec : exec i s = deviceOp op s.opAddr s.opDur begin build resume s) : step s = drivePair build resume s := by
  rw [step_running hr hh hw, hexec, deviceOp_busy hh hop rfl rfl]

/-- A step of a busy engine whose command has a request of its own is a step of a pair the sequencer has rules for. -/
theorem step_drivesPair {s : State} (hr : s.rst = false) (hh : s.hstate = .busy) (hown : (requestOfControl s).isSome) :
    ∃ build resume, HasRules build resume s ∧ step s = drivePair build resume s := by
  have hw := decodeCommand_latchedWord s
  rcases curOp_of_request hown with ⟨hseq, hop | hop | hop⟩ | ⟨hseq, hop | hop⟩ <;> rw [hop] at hw
  · exact ⟨_, _, hasRules_oneExchange (execReqStart s.opAddr) ⟨_, rfl⟩ hseq, step_deviceOp hr hh hop hw rfl⟩
  · exact ⟨_, _, hasRules_oneExchange (execReqStop s.opAddr) ⟨_, rfl⟩ hseq, step_deviceOp hr hh hop hw rfl⟩
  · exact ⟨_, _, hasRules_oneExchange (execReqDispense s.opAddr s.opDur) ⟨_, rfl⟩ hseq, step_deviceOp hr hh hop hw rfl⟩
  · exact ⟨_, _, hasRules_scan s.opAddr hseq, step_deviceOp hr hh hop hw rfl⟩
  · exact ⟨_, _, hasRules_getState s.opAddr hseq, step_deviceOp hr hh hop hw rfl⟩

/-! ### The whole machine -/

/-- A busy engine in an exchange or an enumeration waits for the link, and for nothing else (R166, R198). -/
theorem ControlInv.step_waitsForLink {s : State} (hi : ControlInv s) (hr : s.rst = false) (hh : s.hstate = .busy)
    (howes : s.xph ≠ .idle ∨ s.estate ≠ .idle) : WaitsForLink s (step s) := by
  rcases hi.busyRuns hh with ⟨hop, hest, -, -⟩ | ⟨hest, hown⟩
  · have hw := decodeCommand_latchedWord s
    rw [hop] at hw
    rw [step_running hr hh hw]
    exact execAssign_waitsForLink ⟨hh, hop, rfl, rfl⟩ hest
  · obtain ⟨build, resume, hrules, hstep⟩ := step_drivesPair hr hh hown
    rw [hstep]
    exact hrules.drivePair_waitsForLink hi.exchange (howes.resolve_right (not_not.mpr hest))

/-- Between exchanges a busy engine waits for nothing. -/
theorem ControlInv.step_betweenExchanges {s : State} (hi : ControlInv s) (hr : s.rst = false) (hh : s.hstate = .busy)
    (hx : s.xph = .idle) (hest : s.estate = .idle) : ∃ t, step s = .next t := by
  rcases hi.busyRuns hh with ⟨-, hne, -, -⟩ | ⟨-, hown⟩
  · exact absurd hest hne
  · obtain ⟨build, resume, hrules, hstep⟩ := step_drivesPair hr hh hown
    rw [hstep]
    exact hrules.drivePair_starts hx

/-- An idle engine accepts every host command in one step (R103). -/
theorem exec_accepts {i : Instr} {s : State} (hc : IsCommand i) (hh : s.hstate = .idle) : ∃ t, exec i s = .next t := by
  obtain ⟨a, d, rfl | rfl | rfl | rfl | rfl | rfl | rfl | rfl⟩ := hc.cases
  · exact ⟨_, by simp only [exec, execBusReset, hh]; rfl⟩
  · exact ⟨_, by simp only [exec, execAssign, hh]; rfl⟩
  · exact ⟨_, deviceOp_idle hh⟩
  · exact ⟨_, deviceOp_idle hh⟩
  · exact ⟨_, deviceOp_idle hh⟩
  · exact ⟨_, deviceOp_idle hh⟩
  · exact ⟨_, deviceOp_idle hh⟩
  · exact ⟨_, by simp only [exec, execSetDebug, hh]; rfl⟩

/-- Only a word with a reserved code is no command (R102, R103). -/
theorem decodeCommand_rejected {w : Word32} {r : Reject} (h : decodeCommand w = .rejected r) :
    8 ≤ (wordOp w).toNat ∧ r = .reservedOp (wordOp w) := by
  unfold decodeCommand at h
  split at h <;> cases h
  exact ⟨by grind, rfl⟩

/-- A step of an idle engine goes on or refuses a reserved code (R103). -/
theorem step_idle {s : State} (hr : s.rst = false) (hh : s.hstate = .idle) :
    (∃ t, step s = .next t) ∨ ∃ op : Byte, 8 ≤ op.toNat ∧ step s = .refused (.notAccepted (.reservedOp op)) := by
  cases hc : s.cmds with
  | nil => exact .inl ⟨s, step_waits hr hh hc⟩
  | cons w ws =>
    cases hw : decodeCommand w with
    | instr i =>
      rw [step_offered hr hh hc hw]
      exact .inl (exec_accepts ⟨w, hw⟩ hh)
    | rejected r =>
      obtain ⟨hop, rfl⟩ := decodeCommand_rejected hw
      exact .inr ⟨_, hop, step_reserved hr hh hc hw⟩

/-- Settles O50: engine reset, an idle engine, one that owes a transfer, and one between two exchanges. -/
theorem stepStopsOnlyAsStated : Obligations.StepStopsOnlyAsStated := by
  intro s hi
  cases hr : s.rst with
  | true => exact .inl ⟨_, step_reset hr⟩
  | false =>
    cases hh : s.hstate with
    | idle => exact (step_idle hr hh).imp_right fun h => .inr ⟨rfl, h⟩
    | busy =>
      by_cases howes : s.xph ≠ .idle ∨ s.estate ≠ .idle
      · obtain ⟨tx, ⟨-, hgoes⟩ | ⟨hl, hstuck⟩⟩ := hi.step_waitsForLink hr hh howes
        · exact .inl hgoes
        · exact .inr (.inl ⟨hstuck, rfl, script_of_linkReturns_none hl, howes⟩)
      · obtain ⟨hx, hest⟩ := not_or.mp howes
        exact .inl (hi.step_betweenExchanges hr hh (not_not.mp hx) (not_not.mp hest))

/-- Settles O52: EXCHANGE, ASSIGN and the step each hang on one transfer, which the link does not complete. -/
theorem stalledLinkSticks : Obligations.StalledLinkSticks := by
  refine fun s => ⟨fun tx hx htx hl => execExchange_silence hx htx hl, fun a d hh hop ha hd hl => ?_,
    fun hi hr hh howes hscript htail => ?_⟩
  · have hrun : Running 1 a d s := ⟨hh, hop, ha, hd⟩
    rcases hl with ⟨hest, hl⟩ | ⟨hest, hl⟩
    · exact (execAssign_primer hrun hest).trans (xfer_of_silence hl _)
    · exact (execAssign_poll hrun hest).trans (xfer_of_silence hl _)
  · obtain ⟨tx, ⟨hl, -⟩ | ⟨-, hstuck⟩⟩ := hi.step_waitsForLink hr hh howes
    · simp [linkReturns_stalled hscript htail] at hl
    · exact hstuck

/-! ### Control states without a rule (log entry 10) -/

theorem byteToSend_beyond {s : State} (hx : s.xph = .req) (htxi : 6 ≤ s.txi.toNat) : byteToSend s = none := by
  have hlen : s.req.bytes.length ≤ s.txi.toNat := htxi
  rw [byteToSend_req hx, List.getElem?_eq_none hlen]

/-- A full reply has no offset for another byte (R60). -/
theorem frame_set?_beyond {f : Frame} {k : Nat} (h : 6 ≤ k) (b : Byte) : f.set? k b = none := by
  rw [← Option.not_isSome_iff_eq_none, Frame.set?_isSome_iff]
  omega

/-- A device operation whose request cannot be built has no enabled step (R223). -/
theorem deviceOp_buildFault {op : BitVec 3} {a : Byte} {d : Half} {begin : State → State} {build resume : State → Result}
    {s : State} {f : Fault} (h : Running op a d s) (hx : s.xph = .idle) (hb : build s = .fault f) :
    deviceOp op a d begin build resume s = .fault f := by
  obtain ⟨hh, hop, ha, hd⟩ := h
  rw [deviceOp_busy hh hop ha hd, drivePair_buildFault hx hb]

theorem buildInCmd_none (build : State → Result) {s : State} (h : s.seq = .none) :
    buildInCmd build s = .fault .noEnabledStep := by
  simp [buildInCmd, h]

theorem buildScan_none {s : State} (h : s.seq = .none) : buildScan s = .fault .noEnabledStep := by
  simp [buildScan, h]

theorem buildGetState_none (addr : Byte) {s : State} (h : s.seq = .none) :
    buildGetState addr s = .fault .noEnabledStep := by
  simp [buildGetState, h]

/-- Settles O51: no byte of REQ at TXI, no offset of REPLY at RXN, no rule for an idle ESTATE, no request in S_NONE. -/
theorem unreachableControlStops : Obligations.UnreachableControlStops := by
  refine fun s => ⟨fun hx htxi => ?_, fun rx hx hrxn hsync hl => ?_, fun a d hh hop ha hd hest => ?_,
    fun a d hh ha hd hx hseq => ⟨fun hop => ?_, fun hop => ?_, fun hop => ?_, fun hop => ?_, fun hop => ?_⟩⟩
  · exact execExchange_noByte (by simp [hx]) (byteToSend_beyond hx htxi)
  · have ha : acceptsByte (isFirstTransfer s) s.sync rx = true := by
      rw [isFirstTransfer_later (.inr hx), hsync]; rfl
    exact execExchange_noRoom (by simp [hx]) (byteToSend_fill hx) hl ha (frame_set?_beyond hrxn rx)
  · exact execAssign_noEnumeration ⟨hh, hop, ha, hd⟩ hest
  · exact deviceOp_buildFault ⟨hh, hop, ha, hd⟩ hx (buildInCmd_none _ hseq)
  · exact deviceOp_buildFault ⟨hh, hop, ha, hd⟩ hx (buildInCmd_none _ hseq)
  · exact deviceOp_buildFault ⟨hh, hop, ha, hd⟩ hx (buildInCmd_none _ hseq)
  · exact deviceOp_buildFault ⟨hh, hop, ha, hd⟩ hx (buildScan_none hseq)
  · exact deviceOp_buildFault ⟨hh, hop, ha, hd⟩ hx (buildGetState_none a hseq)

end Sys2Proof.Machine

namespace Sys2Proof.Machine

/-! ## A delivery inside a device operation (R151, R166, R167, R210) -/

/-- What an exchange that receives a delivery leaves, whatever its trace (R167). -/
def EndsWith (s : State) (v : Delivery) (rest : List Byte) (u : State) : Prop :=
  ∃ tr td, u = { exchangeEnd v.frame (exchangeEvents s.req v.bytes) rest s with trace := tr, traceDraws := td }

/-- After the first byte and the padding, the frame ends the exchange (R155, R158, R162). -/
theorem Transfers.deliveredFrame (s : State) (v : Delivery) (hv : v.frame.header0 = Config.syncByte) (rest : List Byte)
    (tr : List TraceEvent) (td : Nat) : ∃ u, EndsWith s v rest u ∧
      Transfers 6 (midExchange s (v.first :: v.pad) Frame.zero 0 .seeking (v.frame.bytes ++ rest) tr td) u := by
  obtain ⟨first, pad, ⟨h0, h1, h2, h3, h4, h5⟩⟩ := v
  subst hv
  obtain ⟨tr', td', h⟩ := Transfers.frame s (first :: pad) (by simp) h1 h2 h3 h4 h5 rest tr td
  refine ⟨_, ⟨tr', td', rfl⟩, ?_⟩
  rw [exchangeEvents_eq_sentEvents _ _ (by simp [Delivery.bytes, Frame.bytes])]
  simpa [Delivery.bytes, Frame.bytes] using h

/-- An exchange is its start and one transfer for each byte of the delivery (R159, R166, R167). -/
theorem Transfers.delivery {s : State} {v : Delivery} {rest : List Byte} (hx : s.xph = .idle) (hv : v.clean)
    (hs : s.script = v.bytes ++ rest) :
    ∃ m u, execExchange s = .next m ∧ EndsWith s v rest u ∧ Transfers v.bytes.length m u := by
  obtain ⟨hpad, hsync⟩ := hv
  obtain ⟨tr0, td0, hstart⟩ := execExchange_start hx
  have hscript : s.script = v.first :: (v.pad ++ (v.frame.bytes ++ rest)) := by simp [hs, Delivery.bytes]
  rw [hscript] at hstart
  obtain ⟨tr1, td1, hfirst⟩ := execExchange_mid_discard (s := s) (rxs := []) (reply := Frame.zero) (b := v.first)
    (rest := v.pad ++ (v.frame.bytes ++ rest)) (tr := tr0) (td := td0) (.inl rfl)
  obtain ⟨u, hu, hlater⟩ := Transfers.pad (s := s) (EndsWith s v rest) v.pad hpad [v.first] tr1 td1 (by simp)
    (Transfers.deliveredFrame s v hsync rest)
  have hlength : v.bytes.length = v.pad.length + 6 + 1 := by simp [Delivery.bytes, Frame.bytes]
  rw [hlength]
  exact ⟨_, u, hstart, hu, .more midExchange_running hfirst hlater⟩

/-- A BUILD and EXCHANGE pair of a device operation that receives a delivery: after its steps the sequencer has done what
it does on the exchange's return (R166, R210). -/
theorem steps_pair {s : State} {v : Delivery} {rest : List Byte} {f : Frame} {i : Instr} {op : BitVec 3} {a : Byte}
    {d : Half} {begin : State → State} {build resume : State → Result} (hrun : Running op a d s) (hr : s.rst = false)
    (hx : s.xph = .idle) (hexec : ∀ u, exec i u = deviceOp op a d begin build resume u)
    (hdec : ∀ u : State, u.curOp = op → u.opAddr = a → u.opDur = d → decodeCommand (latchedWord u) = .instr i)
    (hb : build s = .next (writeRequest f s)) (hv : v.clean) (hs : s.script = v.bytes ++ rest) :
    ∃ u, EndsWith (writeRequest f s) v rest u ∧ ∀ t, resume u = .next t → steps v.steps s = .next t := by
  obtain ⟨m, u, hstart, hu, htransfers⟩ := Transfers.delivery (s := writeRequest f s) hx hv hs
  refine ⟨u, hu, fun t ht => ?_⟩
  have hux : u.xph = .idle := by
    obtain ⟨tr, td, rfl⟩ := hu
    rfl
  obtain ⟨hh, hop, ha, hd⟩ := hrun
  have hstep : step s = .next m := by
    rw [step_running hr hh (hdec s hop ha hd), hexec, deviceOp_busy hh hop ha hd, drivePair_idle hx hb, hstart]
  have honly := execExchange_only hstart
  rw [Delivery.steps, Nat.add_comm, steps_succ hstep]
  exact htransfers.steps hexec hdec hux ht (by rw [honly]; exact hr) (by rw [honly]; exact hh) (by rw [honly]; exact hop)
    (by rw [honly]; exact ha) (by rw [honly]; exact hd)

/-- DISPENSE sends its request, and ends with success when the delivered frame is that request (R171, R213). -/
theorem steps_dispense_echo {s : State} {v : Delivery} {rest : List Byte} {a : Byte} {d : Half} (hrun : Running 4 a d s)
    (hr : s.rst = false) (hx : s.xph = .idle) (hseq : s.seq = .cmd) (hv : v.clean)
    (hecho : v.frame = dispenseFrame s.params a d) (hs : s.script = v.bytes ++ rest) :
    ∃ u, EndsWith (writeRequest v.frame s) v rest u ∧ steps v.steps s = .next (endDeviceOp true 0x00 0x00 u) := by
  have hb : buildInCmd (execReqDispense a d) s = .next (writeRequest v.frame s) := by
    simp only [buildInCmd, hseq, hecho]
    rfl
  obtain ⟨u, hu, hsteps⟩ := steps_pair (i := .dispense a d) hrun hr hx (fun _ => rfl)
    (fun w hop ha hd => by rw [decodeCommand_latchedWord, hop, ha, hd]; rfl) hb hv hs
  refine ⟨u, hu, hsteps _ ?_⟩
  have hsuccess : u.success = true := by
    obtain ⟨tr, td, rfl⟩ := hu
    exact verify_self _ _
  simp [returnSuccess, hsuccess]

/-- Settles O38: the order decides what the payload is, not whether the echo equals the request. -/
theorem durationOrderIrrelevant : Obligations.DurationOrderIrrelevant := by
  intro s w ws a d o first pad rest hr hh hx hc hw hpad ho hs
  have haccept : step s = .next (beginCommand (accept 4 a d { s with cmds := ws })) := by
    rw [step_offered hr hh hc hw]
    exact deviceOp_idle hh
  obtain ⟨u, ⟨tr, td, rfl⟩, hsteps⟩ := steps_dispense_echo (s := beginCommand (accept 4 a d { s with cmds := ws }))
    ⟨rfl, rfl, rfl, rfl⟩ hr hx rfl (v := ⟨first, pad, dispenseFrame s.params a d⟩) ⟨hpad, rfl⟩ rfl hs
  have hlength : pad.length + 9 = (Delivery.mk first pad (dispenseFrame s.params a d)).steps + 1 := by
    simp [Delivery.steps, Delivery.bytes, Frame.bytes]
    omega
  rw [hlength, steps_succ haccept]
  exact ⟨_, hsteps, rfl, rfl, rfl, rfl, by rw [← ho]; rfl⟩

end Sys2Proof.Machine

namespace Sys2Proof

/-! ## Words and frames the other way (R90 to R96, R101 to R103, R110) -/

/-- The allocated codes, one by one (R102). -/
theorem allocatedOp_cases {op : Byte} (h : op.toNat < 8) :
    op = 0x00 ∨ op = 0x01 ∨ op = 0x02 ∨ op = 0x03 ∨ op = 0x04 ∨ op = 0x05 ∨ op = 0x06 ∨ op = 0x07 := by
  bv_omega

/-- Every word with an allocated code is the encoding of a command, whatever its two fields (R101, R102). -/
theorem exists_encode_eq_command (p : Params) {w : Word32} (h : (wordOp w).toNat < 8) :
    ∃ i, encode p i = some (.command w) := by
  rw [← commandWord_fields w]
  generalize wordA w = a, wordD w = d
  obtain hop | hop | hop | hop | hop | hop | hop | hop := allocatedOp_cases h <;> rw [hop]
  · exact ⟨.busReset a d, rfl⟩
  · exact ⟨.assign a d, rfl⟩
  · exact ⟨.turnOn a d, rfl⟩
  · exact ⟨.turnOff a d, rfl⟩
  · exact ⟨.dispense a d, rfl⟩
  · exact ⟨.checkAll a d, rfl⟩
  · exact ⟨.getState a d, rfl⟩
  · exact ⟨.setDebug a d, rfl⟩

/-- A word with a reserved code is rejected by name (R102, R103). -/
theorem decodeCommand_reserved {w : Word32} (h : 8 ≤ (wordOp w).toNat) :
    decodeCommand w = .rejected (.reservedOp (wordOp w)) := by
  cases hw : decodeCommand w with
  | instr i =>
    rw [← commandWord_fields w] at hw
    exact absurd (decodeCommand_commandWord_lt _ _ _ _ hw) (by omega)
  | rejected r =>
    obtain ⟨-, rfl⟩ := Machine.decodeCommand_rejected hw
    rfl

/-- Settles O3: an allocated code's word is the encoding of a command, which decoding reads back; the other codes are
reserved. -/
theorem commandWordsExact : Obligations.CommandWordsExact := by
  refine fun p w => ⟨fun hop => ?_, decodeCommand_reserved⟩
  obtain ⟨i, hi⟩ := exists_encode_eq_command p hop
  exact ⟨i, decodeCommand_of_encode hi, hi⟩

/-- The frame of a kind satisfies the row's `request_match` exactly when its payload is the kind's (R94, R110). -/
theorem isRequestFrame_requestFrame {p : Params} (hp : p.Wf) (kind : Kind) (addr p0 p1 : Byte) :
    isRequestFrame p (requestFrame p kind addr p0 p1) = wellFormedPayload kind p0 p1 := by
  have hk : kindOfType p (p.typeCode kind) = some kind := kindOfType_typeCode hp kind
  simp [isRequestFrame, requestFrame, hk]

theorem isRequestFrame_placeholderFrame {p : Params} (hp : p.Wf) (kind : Kind) (addr : Byte) :
    isRequestFrame p (placeholderFrame p kind addr) = true := by
  rw [placeholderFrame, isRequestFrame_requestFrame hp]
  simp [wellFormedPayload]

theorem isRequestFrame_dispenseFrame {p : Params} (hp : p.Wf) (addr : Byte) (d : Half) :
    isRequestFrame p (dispenseFrame p addr d) = true :=
  isRequestFrame_requestFrame hp .dispense addr _ _

/-- Settles O4: the encoder gives DISPENSE the frame with its duration and every other request a placeholder frame. -/
theorem requestFrameLayout : Obligations.RequestFrameLayout := by
  intro p i f hp h
  cases i with
  | reqDispense addr d =>
    cases h
    exact ⟨rfl, rfl, isRequestFrame_dispenseFrame hp addr d,
      .inl ⟨addr, d, rfl, rfl, rfl, payloadDuration_durationPayload p.durOrder d⟩⟩
  | reqStart addr | reqStop addr | reqCheck addr | reqGetState addr | reqResponse addr =>
    cases h
    exact ⟨rfl, rfl, isRequestFrame_placeholderFrame hp _ addr,
      .inr ⟨rfl, rfl, addr, rfl, by simp [placeholderFrame, requestFrame]⟩⟩
  | _ => cases h

/-- Settles O1: the words and the frames are given in full, so each decodes by evaluation. -/
theorem specWordsDecode : Obligations.SpecWordsDecode := ⟨rfl, rfl, rfl, rfl, rfl, rfl, rfl, rfl⟩

end Sys2Proof

namespace Sys2Proof.Machine

/-! ## Acceptance and refusal of a command (R103, R190, R198, R210, R214) -/

theorem execAssign_idle {s : State} (hh : s.hstate = .idle) (a : Byte) (d : Half) :
    execAssign a d s = .next { accept 1 a d s with estate := .primer } := by
  simp [execAssign, hh]

/-- Settles O22: acceptance latches the command, and the enumerator leaves its idle state. -/
theorem assignAccepted : Obligations.AssignAccepted := fun _ a d hh => execAssign_idle hh a d

theorem beginScan_nonzero {count : Byte} (h : count ≠ 0) (s : State) :
    beginScan count s = { s with scanAddr := 1, seq := .cmd } := if_neg h

/-- Settles O27: each is a device operation, accepted and begun; a scan with a count begins at address 1. -/
theorem deviceOpsAccepted : Obligations.DeviceOpsAccepted :=
  fun _ _ _ hh => ⟨deviceOp_idle hh, deviceOp_idle hh, deviceOp_idle hh,
    fun ha => (deviceOp_idle hh).trans (congrArg _ (beginScan_nonzero ha _)), deviceOp_idle hh⟩

/-- Settles O44: the step rejects the word by its reserved code. -/
theorem reservedCodeRefused : Obligations.ReservedCodeRefused :=
  fun _ _ _ hr hh hc hop => step_reserved hr hh hc (decodeCommand_reserved hop)

/-- The latches hold another command, or the same one with other operands (R103). -/
theorem inProgress_eq_false_iff {op : BitVec 3} {a : Byte} {d : Half} {s : State} :
    inProgress op a d s = false ↔ s.curOp ≠ op ∨ s.opAddr ≠ a ∨ s.opDur ≠ d := by
  rw [← Bool.not_eq_true, inProgress_iff]
  tauto

theorem execBusReset_busy {s : State} (hh : s.hstate = .busy) (a : Byte) (d : Half) :
    execBusReset a d s = .refused .commandWhileBusy := by
  simp [execBusReset, hh]

theorem execSetDebug_busy {s : State} (hh : s.hstate = .busy) (level : Byte) (d : Half) :
    execSetDebug level d s = .refused .commandWhileBusy := by
  simp [execSetDebug, hh]

theorem execAssign_otherCommand {a : Byte} {d : Half} {s : State} (hh : s.hstate = .busy)
    (hp : inProgress 1 a d s = false) : execAssign a d s = .refused .commandWhileBusy := by
  simp only [execAssign, hh, hp, Bool.false_eq_true, if_false]

/-- Settles O45: the latches decide; BUSRESET and SETDEBUG are never the command in progress. -/
theorem busyCommandRefused : Obligations.BusyCommandRefused := by
  intro s a d hh
  have hop : ∀ {op : BitVec 3}, s.curOp ≠ op → inProgress op a d s = false :=
    fun h => inProgress_eq_false_iff.mpr (.inl h)
  refine ⟨execBusReset_busy hh a d, execSetDebug_busy hh a d, fun h => execAssign_otherCommand hh (hop h),
    fun h => deviceOp_otherCommand hh (hop h), fun h => deviceOp_otherCommand hh (hop h),
    fun h => deviceOp_otherCommand hh (hop h), fun h => deviceOp_otherCommand hh (hop h),
    fun h => deviceOp_otherCommand hh (hop h), fun h => ?_⟩
  have hoperands : ∀ op : BitVec 3, inProgress op a d s = false := fun _ => inProgress_eq_false_iff.mpr (.inr h)
  exact ⟨execAssign_otherCommand hh (hoperands 1), deviceOp_otherCommand hh (hoperands 2),
    deviceOp_otherCommand hh (hoperands 3), deviceOp_otherCommand hh (hoperands 4),
    deviceOp_otherCommand hh (hoperands 5), deviceOp_otherCommand hh (hoperands 6)⟩

end Sys2Proof.Machine

namespace Sys2Proof.Machine

/-! ## The packet codec: BUILD and the six request frames (R130 to R136) -/

/-- Settles O6: BUILD is one write of the request buffer, with the frame of R90. -/
theorem buildWritesRequest : Obligations.BuildWritesRequest := fun _ _ _ _ _ => rfl

/-- Settles O7: each request frame is BUILD at its kind, with the placeholder payload or the two duration bytes. -/
theorem requestsBuilt : Obligations.RequestsBuilt := by
  intro s addr d
  have build := buildWritesRequest s
  exact ⟨build .start addr 0xA0 0xA1, build .stop addr 0xA0 0xA1,
    build .dispense addr (durationPayload s.params.durOrder d).1 (durationPayload s.params.durOrder d).2,
    build .check addr 0xA0 0xA1, build .getState addr 0xA0 0xA1, build .response addr 0xA0 0xA1⟩

end Sys2Proof.Machine

namespace Sys2Proof.Machine

/-! ## One transfer of an exchange (R150, R153 to R156, R160 to R166) -/

/-- `t` is `s` after transfers that stored nothing: only what every transfer changes differs (R153, R154). -/
def OnlyTransferred (s t : State) : Prop :=
  t = { s with
    txi := t.txi, xph := t.xph, script := t.script, wire := t.wire, trace := t.trace, traceDraws := t.traceDraws }

theorem OnlyTransferred.refl (s : State) : OnlyTransferred s s := rfl

theorem OnlyTransferred.trans {s m t : State} (h : OnlyTransferred s m) (h' : OnlyTransferred m t) :
    OnlyTransferred s t := by
  unfold OnlyTransferred at *
  rw [h', h]

theorem onlyTransferred_transferred (tx rx : Byte) (s : State) : OnlyTransferred s (transferred tx rx s) := by
  unfold OnlyTransferred
  by_cases hx : s.xph = .req
  · rw [transferred_of_req hx]
  · rw [transferred_of_fill hx]

/-- While the reply has room the tests at the end of X_step write XPH alone, and do not end the exchange (R158). -/
theorem settleExchange_room {s : State} (hroom : s.rxn ≠ 6) :
    OnlyTransferred s (settleExchange s) ∧ (s.xph ≠ .idle → (settleExchange s).xph ≠ .idle) := by
  by_cases hend : s.xph = .req ∧ s.txi = 6
  · rw [settleExchange_phaseEnd hroom hend.1 hend.2]
    exact ⟨rfl, fun _ => nofun⟩
  · rw [settleExchange_goesOn hroom hend]
    exact ⟨rfl, id⟩

/-- A discarded byte leaves what only transferring leaves (R153, R154). -/
theorem onlyTransferred_discarded (tx rx : Byte) {s : State} (hroom : s.rxn ≠ 6) :
    OnlyTransferred s (settleExchange (transferred tx rx s)) :=
  (onlyTransferred_transferred tx rx s).trans (settleExchange_room (by rwa [transferred_rxn])).1

theorem acceptsByte_first {s : State} (hx : s.xph = .req) (htxi : s.txi = 0) (rx : Byte) :
    acceptsByte (isFirstTransfer s) s.sync rx = false := by
  simp [acceptsByte, isFirstTransfer, hx, htxi]

/-- Seeking, no byte but the sync byte is accepted, at the first transfer or later (R154). -/
theorem acceptsByte_seeking {s : State} (hsync : s.sync = .seeking) {rx : Byte} (hrx : rx ≠ 0xFF) :
    acceptsByte (isFirstTransfer s) s.sync rx = false := by
  simpa [acceptsByte, hsync, Config.syncByte] using fun _ => hrx

/-- From the second transfer on the sync byte is accepted, and so is every byte once Accepting (R155). -/
theorem acceptsByte_later {s : State} (hlater : (s.xph = .req ∧ 1 ≤ s.txi.toNat) ∨ s.xph = .fill) {rx : Byte}
    (h : s.sync = .accepting ∨ rx = 0xFF) : acceptsByte (isFirstTransfer s) s.sync rx = true := by
  rw [isFirstTransfer_later hlater]
  simpa [acceptsByte, Config.syncByte] using h

/-- Settles O11: the first transfer is discarded, and one request byte sent does not end phase 1. -/
theorem firstByteDiscarded : Obligations.FirstByteDiscarded := by
  intro s rx hx htxi hroom hrx
  have htx : byteToSend s = some s.req.header0 := by rw [byteToSend_req hx, htxi]; rfl
  have he := execExchange_discard (by simp [hx]) htx hrx (acceptsByte_first hx htxi rx)
  have hone : (transferred s.req.header0 rx s).txi = 1 := by rw [transferred_txi_req hx, htxi]; rfl
  rw [settleExchange_goesOn (by rwa [transferred_rxn]) (by simp [hone])] at he
  exact ⟨_, he, by simp [hone, hx]⟩

/-- Settles O12: what is discarded changes only what every transfer changes. -/
theorem seekingDiscards : Obligations.SeekingDiscards := by
  intro s tx rx htx hrx hsync hroom hne hlater
  have hx : s.xph ≠ .idle := by rcases hlater with ⟨hx, -⟩ | hx <;> simp [hx]
  exact ⟨_, execExchange_discard hx htx hrx (acceptsByte_seeking hsync hne), onlyTransferred_discarded tx rx hroom⟩

/-- Settles O13: an accepted byte is the one write of REPLY, at the offset RXN. -/
theorem acceptingStores : Obligations.AcceptingStores := by
  intro s tx rx htx hrx hroom hacc hlater
  have hx : s.xph ≠ .idle := by rcases hlater with ⟨hx, -⟩ | hx <;> simp [hx]
  obtain ⟨r, hr⟩ := Option.isSome_iff_exists.mp ((Frame.set?_isSome_iff s.reply s.rxn.toNat rx).mpr hroom)
  refine ⟨_, execExchange_accept hx htx hrx (acceptsByte_later hlater hacc) hr, ?_, fun k hk => ?_, by simp, by simp⟩
  · rw [settleExchange_reply]
    exact Frame.get?_set?_same hr
  · rw [settleExchange_reply]
    exact Frame.get?_set?_other hr hk

/-- The sixth accepted byte ends the exchange with the verdict on the reply it completes (R158, R162). -/
theorem execExchange_sixthByte {s : State} {rx : Byte} (hx : s.xph = .fill) (hrxn : s.rxn = 5)
    (hsync : s.sync = .accepting) (hrx : linkReturns 0x00 s = some rx) :
    ∃ t, execExchange s = .next t ∧ t.xph = .idle ∧ t.reply = { s.reply with payload1 := rx } ∧
      t.success = verify s.params s.req t.reply := by
  have hr : s.reply.set? s.rxn.toNat rx = some { s.reply with payload1 := rx } := by rw [hrxn]; rfl
  have he := execExchange_accept (by simp [hx]) (byteToSend_fill hx) hrx (acceptsByte_later (.inr hx) (.inl hsync)) hr
  rw [settleExchange_full (by simp [hrxn])] at he
  exact ⟨_, he, rfl, rfl, by simp⟩

/-- Settles O15: the verdict is `verify` of the completed reply; a command's request and an accepted reply both begin
with the sync byte. -/
theorem exchangeVerifies : Obligations.ExchangeVerifies := by
  intro s rx hx hrxn hsync hrx
  obtain ⟨t, he, htx, hreply, hsuccess⟩ := execExchange_sixthByte hx hrxn hsync hrx
  refine ⟨t, he, htx, hreply, by rw [hsuccess, verify_formula], fun hi _ => ?_⟩
  have hreq : s.req.header0 = Config.syncByte := requestOfControl_header0 (hi.requestStable (by simp [hx]))
  rw [hreq, hreply]
  exact (hi.replySync (by simp [hrxn])).symm

/-- A transfer writes no offset of REPLY but RXN (R155). -/
theorem execExchange_otherOffsets {s t : State} (h : execExchange s = .next t) (hx : s.xph ≠ .idle) {k : Nat}
    (hk : k ≠ s.rxn.toNat) : t.reply.get? k = s.reply.get? k := by
  rcases execExchange_cases h with ⟨hidle, -⟩ | ⟨tx, rx, -, -, -, ⟨-, rfl⟩ | ⟨r, -, hr, rfl⟩⟩
  · exact absurd hidle hx
  · rw [settleExchange_reply, transferred_reply]
  · rw [settleExchange_reply]
    exact Frame.get?_set?_other hr hk

/-- Settles O16: what one step of EXCHANGE writes, what a transfer writes of REPLY, and that X_start is no transfer. -/
theorem exchangeFrame : Obligations.ExchangeFrame := by
  intro s t h
  refine ⟨execExchange_only h, fun hx k hk => execExchange_otherOffsets h hx hk, fun hx => ?_⟩
  have ht : startExchange s = t := Host.Outcome.next.inj ((execExchange_idle hx).symm.trans h)
  subst ht
  simp

/-- Settles O9: X_start writes the reply and the transport control state, and the trace. -/
theorem exchangeStarts : Obligations.ExchangeStarts := fun s hx =>
  ⟨startExchange s, execExchange_idle hx, rfl, rfl, rfl, rfl, rfl, startExchange_only s⟩

/-! ## The trace of an exchange (R165) -/

theorem traceAttempt_trace (s : State) : (traceAttempt s).trace =
    s.trace ++ (if s.debugLevel = 0 then [] else if s.debugLevel = 1 ∨ s.debugLevel = 2 then [.attempt s.req]
      else Config.freeTrace s.traceDraws) := by
  unfold traceAttempt
  split_ifs <;> simp [traceFree]

theorem traceByte_trace (tx rx : Byte) (s : State) : (traceByte tx rx s).trace =
    s.trace ++ (if s.debugLevel = 0 ∨ s.debugLevel = 1 then [] else if s.debugLevel = 2 then [.byte tx rx]
      else Config.freeTrace s.traceDraws) := by
  unfold traceByte
  split_ifs <;> simp [traceFree]

theorem transferred_trace (tx rx : Byte) (s : State) : (transferred tx rx s).trace =
    s.trace ++ (if s.debugLevel = 0 ∨ s.debugLevel = 1 then [] else if s.debugLevel = 2 then [.byte tx rx]
      else Config.freeTrace s.traceDraws) := by
  rw [transferred, countTx_trace, traceByte_trace]
  rfl

/-- Settles O21: X_start passes one trace point, a transfer another, whether its answer is discarded or accepted. -/
theorem traceByLevel : Obligations.TraceByLevel := by
  refine fun s => ⟨fun hx => ⟨_, execExchange_idle hx, traceAttempt_trace s⟩, fun tx rx hx hroom htx hrx => ?_⟩
  rcases execExchange_room hx htx hrx hroom with ⟨-, he⟩ | ⟨-, r, -, he⟩
  · exact ⟨_, he, by rw [settleExchange_trace, transferred_trace]⟩
  · exact ⟨_, he, by rw [settleExchange_trace]; exact transferred_trace tx rx s⟩

/-! ## A whole exchange (R159, R167, R170 to R172) -/

/-- EXCHANGE carried on for the steps of a delivery ends as the closed form says (R159, R167). -/
theorem execTimes_delivery {s : State} {v : Delivery} {rest : List Byte} (hx : s.xph = .idle) (hv : v.clean)
    (hs : s.script = v.bytes ++ rest) : ∃ u, EndsWith s v rest u ∧ execTimes .exchange v.steps s = .next u := by
  obtain ⟨m, u, hstart, hu, htransfers⟩ := Transfers.delivery hx hv hs
  have hone : execTimes .exchange 1 s = .next m := by simp [execTimes, exec, hstart]
  exact ⟨u, hu, (execTimes_add hone _).trans htransfers.execTimes⟩

theorem EndsWith.fields {s u : State} {v : Delivery} {rest : List Byte} (h : EndsWith s v rest u) :
    u.xph = .idle ∧ u.reply = v.frame ∧ u.success = verify s.params s.req v.frame := by
  obtain ⟨tr, td, rfl⟩ := h
  exact ⟨rfl, rfl, rfl⟩

/-- Settles O17: the start, the first byte, the padding and the frame, one transfer a byte. -/
theorem exchangeClosedForm : Obligations.ExchangeClosedForm := by
  intro s v rest hx hv hs
  obtain ⟨u, ⟨tr, td, rfl⟩, hrun⟩ := execTimes_delivery hx hv hs
  exact ⟨tr, td, hrun⟩

/-- The exemption leaves the header, the address and the type of a RESPONSE reply to compare (R161). -/
theorem verify_response {p : Params} {req reply : Frame} (h : req.typeByte = p.typeCode .response) :
    verify p req reply = true ↔ reply.header0 = req.header0 ∧ reply.header1 = req.header1 ∧
      reply.address = req.address ∧ reply.typeByte = req.typeByte := by
  rw [verify_formula]
  simp only [h, true_or, and_true, eq_comm]

/-- Settles O18: the verdict on the delivered frame, by the kind of the request. -/
theorem successIffEcho : Obligations.SuccessIffEcho := by
  intro s v rest hx hv hs
  obtain ⟨u, hu, hrun⟩ := execTimes_delivery hx hv hs
  obtain ⟨-, -, hsuccess⟩ := hu.fields
  refine ⟨u, hrun, fun hother => ?_, fun hresponse => ?_⟩
  · rw [hsuccess, verify_other hother]
  · rw [hsuccess, verify_response hresponse]

/-- What the receiver makes of a request echoed with no delay: REQ[0] is thrown away, and the rest and one byte more are
the reply (R170). -/
def shiftedEcho (req : Frame) (x : Byte) : Delivery :=
  ⟨req.header0, [], ⟨req.header1, req.address, req.typeByte, req.payload0, req.payload1, x⟩⟩

/-- A frame verifies against itself shifted only if every byte compared equals the next (R170). -/
theorem verify_shiftedEcho (p : Params) {req : Frame} (h0 : req.header0 = 0xFF) (h1 : req.header1 = 0xFF) (x : Byte) :
    verify p req (shiftedEcho req x).frame = true ↔
      (req.address = 0xFF ∧ req.typeByte = 0xFF ∧ req.payload0 = 0xFF ∧
        (req.typeByte ≠ p.typeCode .response → req.payload1 = 0xFF ∧ x = 0xFF)) := by
  rw [verify_formula]
  simp only [shiftedEcho, h0, h1]
  grind

/-- Settles O19: the echoed request and one byte are the delivery of the shifted request. -/
theorem zeroDelayEchoFails : Obligations.ZeroDelayEchoFails := by
  intro s x rest hx h0 h1 hs
  obtain ⟨u, hu, hrun⟩ := execTimes_delivery (v := shiftedEcho s.req x) (rest := rest) hx ⟨nofun, h1⟩ hs
  obtain ⟨hidle, hreply, hsuccess⟩ := hu.fields
  exact ⟨u, hrun, hidle, by rw [hreply, shiftedEcho, h1], by rw [hsuccess, verify_shiftedEcho s.params h0 h1]⟩

/-- Settles O20: the closed form speaks of the parameters, REQ and the delivery alone. -/
theorem exchangeIndependent : Obligations.ExchangeIndependent := by
  intro s s' v rest hx hx' hv hp hreq hs hs'
  obtain ⟨u, hu, hrun⟩ := execTimes_delivery hx hv hs
  obtain ⟨u', hu', hrun'⟩ := execTimes_delivery hx' hv hs'
  obtain ⟨hidle, hreply, hsuccess⟩ := hu.fields
  obtain ⟨hidle', hreply', hsuccess'⟩ := hu'.fields
  exact ⟨u, u', hrun, hrun', hreply.trans hreply'.symm, by rw [hsuccess, hsuccess', hp, hreq], hidle.trans hidle'.symm⟩

end Sys2Proof.Machine

namespace Sys2Proof.Machine

/-! ## An exchange that finds no sync byte (R154, R157, R168 b) -/

theorem sentAt_filler (req : Frame) {n : Nat} (h : 6 ≤ n) : sentAt req n = 0x00 := by
  have hlen : req.bytes.length ≤ n := h
  rw [sentAt, List.getElem?_eq_none hlen]
  rfl

/-- The transfers of an exchange of `req` from transfer `n` on that receive `rxs` (R152, R157). -/
def sentFrom (req : Frame) (n : Nat) (rxs : List Byte) : List WireEvent :=
  rxs.mapIdx fun i rx => .xfer (sentAt req (n + i)) rx

/-- TXI stops at 6, and from there on every byte sent is the filler (R25, R157). -/
theorem sentFrom_min (req : Frame) (n : Nat) (rxs : List Byte) : sentFrom req (min n 6) rxs = sentFrom req n rxs := by
  rcases Nat.le_total n 6 with h | h
  · rw [Nat.min_eq_left h]
  · simp only [sentFrom, Nat.min_eq_right h, sentAt_filler req (Nat.le_add_right 6 _),
      sentAt_filler req (Nat.le_add_right_of_le h)]

theorem sentFrom_cons (req : Frame) (n : Nat) (b : Byte) (rxs : List Byte) :
    sentFrom req n (b :: rxs) = .xfer (sentAt req n) b :: sentFrom req (n + 1) rxs := by
  simp only [sentFrom, List.mapIdx_cons, Nat.add_zero, Nat.add_assoc, Nat.add_comm 1]

/-- In phase 2 the filler answers every byte (R157). -/
theorem sentFrom_replicate (req : Frame) (k : Nat) (b : Byte) :
    sentFrom req 6 (List.replicate k b) = List.replicate k (.xfer 0x00 b) := by
  apply List.ext_getElem
  · simp [sentFrom]
  · simp [sentFrom, sentAt_filler]

/-- The rest of the request and then fillers, byte for byte against what is received (R152, R157). -/
theorem zipWith_eq_sentFrom (req : Frame) {n : Nat} (hn : n ≤ 6) (rxs : List Byte) :
    List.zipWith .xfer ((req.bytes ++ List.replicate rxs.length 0x00).drop n) rxs = sentFrom req n rxs := by
  have hlen : req.bytes.length = 6 := rfl
  apply List.ext_getElem
  · simp [sentFrom, hlen]
    omega
  · intro i _ _
    simp only [List.getElem_zipWith, List.getElem_drop, sentFrom, List.getElem_mapIdx, List.getElem_append]
    by_cases hi : n + i < 6
    · simp [sentAt, hlen, hi]
    · simp [sentAt_filler req (not_lt.mp hi), hlen, hi]

/-- Transferring leaves the request, the reply, the verdict, the results and the line as they are. -/
theorem OnlyTransferred.fields {s t : State} (h : OnlyTransferred s t) :
    t.req = s.req ∧ t.tail = s.tail ∧ t.reply = s.reply ∧ t.success = s.success ∧ t.resOk = s.resOk ∧ t.resA = s.resA ∧
      t.resB = s.resB := by
  rw [h]
  exact ⟨rfl, rfl, rfl, rfl, rfl, rfl, rfl⟩

/-- The engine is in an exchange that has found no sync byte yet, and is not being reset. -/
structure StillSeeking (s : State) : Prop where
  inv : ControlInv s
  noReset : s.rst = false
  running : s.xph ≠ .idle
  seeking : s.sync = .seeking

theorem StillSeeking.rxn {s : State} (h : StillSeeking s) : s.rxn = 0 := by
  by_contra hne
  simpa [h.seeking] using h.inv.syncRxn.mpr hne

theorem StillSeeking.busy {s : State} (h : StillSeeking s) : s.hstate = .busy := by
  cases hs : s.hstate with
  | idle => exact absurd (h.inv.idleQuiet hs).1 h.running
  | busy => rfl

theorem StillSeeking.phase {s : State} (h : StillSeeking s) :
    (s.xph = .req ∧ s.txi.toNat < 6) ∨ (s.xph = .fill ∧ s.txi = 6) := by
  cases hx : s.xph with
  | idle => exact absurd hx h.running
  | req => exact .inl ⟨rfl, (h.inv.phaseOne hx).1⟩
  | fill => exact .inr ⟨rfl, (h.inv.phaseTwo hx).1⟩

theorem StillSeeking.txi_le {s : State} (h : StillSeeking s) : s.txi.toNat ≤ 6 := by
  rcases h.phase with ⟨-, htxi⟩ | ⟨-, htxi⟩
  · exact htxi.le
  · exact htxi ▸ le_rfl

/-- With six request bytes counted the exchange is in phase 2 (R25). -/
theorem StillSeeking.fill {s : State} (h : StillSeeking s) (htxi : s.txi.toNat = 6) : s.xph = .fill ∧ s.txi = 6 :=
  h.phase.resolve_left fun hreq => by omega

/-- The transfer under way is the first when TXI is 0, and no other (R153). -/
theorem StillSeeking.first_iff {s : State} (h : StillSeeking s) : (s.xph = .req ∧ s.txi = 0) ↔ s.txi.toNat = 0 := by
  rcases h.phase with ⟨hx, -⟩ | ⟨hx, htxi⟩
  · simp only [hx, true_and]
    bv_omega
  · simp [hx, htxi]

theorem StillSeeking.byteToSend {s : State} (h : StillSeeking s) :
    byteToSend s = some (sentAt s.req s.txi.toNat) := by
  rcases h.phase with ⟨hx, htxi⟩ | ⟨hx, htxi⟩
  · have hlen : s.txi.toNat < s.req.bytes.length := htxi
    simp only [byteToSend_req hx, sentAt, List.getElem?_eq_getElem hlen, Option.getD_some]
  · rw [byteToSend_fill hx, htxi, sentAt_filler _ (by decide)]

theorem StillSeeking.transferred_txi {s : State} (h : StillSeeking s) (tx rx : Byte) :
    (transferred tx rx s).txi.toNat = min (s.txi.toNat + 1) 6 := by
  rcases h.phase with ⟨hx, htxi⟩ | ⟨hx, htxi⟩
  · rw [transferred_txi_req hx]
    bv_omega
  · rw [transferred_txi_fill (by simp [hx]), htxi]
    rfl

/-- `s` has received `rxs`, found no sync byte, and come to `t` (R154). -/
structure SeekingRun (s : State) (rxs : List Byte) (t : State) : Prop where
  still : StillSeeking t
  only : OnlyTransferred s t
  txi : t.txi.toNat = min (s.txi.toNat + rxs.length) 6
  script : t.script = s.script.drop rxs.length
  wire : t.wire = s.wire ++ sentFrom s.req s.txi.toNat rxs

theorem SeekingRun.nil {s : State} (h : StillSeeking s) : SeekingRun s [] s :=
  ⟨h, .refl s, (Nat.min_eq_left h.txi_le).symm, rfl, (List.append_nil _).symm⟩

/-- One step of the engine that receives a byte it does not accept (R153, R154, R166). -/
theorem StillSeeking.step {s : State} (h : StillSeeking s) {rx : Byte} (hl : ∀ tx, linkReturns tx s = some rx)
    (hrx : s.txi.toNat = 0 ∨ rx ≠ 0xFF) : ∃ t, step s = .next t ∧ SeekingRun s [rx] t := by
  have ha : acceptsByte (isFirstTransfer s) s.sync rx = false := by
    rcases hrx with htxi | hne
    · obtain ⟨hx, h0⟩ := h.first_iff.mpr htxi
      exact acceptsByte_first hx h0 rx
    · exact acceptsByte_seeking h.seeking hne
  have hroom : s.rxn ≠ 6 := by simp [h.rxn]
  have he := execExchange_discard h.running h.byteToSend (hl _) ha
  generalize htx : sentAt s.req s.txi.toNat = tx at he
  have hx : (settleExchange (transferred tx rx s)).xph ≠ .idle :=
    (settleExchange_room (by rwa [transferred_rxn])).2 (by rw [transferred_xph]; exact h.running)
  have hstep := step_transfer h.inv h.noReset h.running he hx
  refine ⟨_, hstep, ⟨stepKeepsControlInv _ _ h.inv hstep, by simp [h.noReset], hx, by simp [h.seeking]⟩,
    onlyTransferred_discarded tx rx hroom, ?_, by simp, by simp [sentFrom, htx]⟩
  rw [settleExchange_txi, h.transferred_txi]
  rfl

theorem SeekingRun.cons {s m t : State} {b : Byte} {rxs : List Byte} (h : SeekingRun s [b] m)
    (h' : SeekingRun m rxs t) : SeekingRun s (b :: rxs) t := by
  obtain ⟨hreq, -⟩ := h.only.fields
  have htxi : m.txi.toNat = min (s.txi.toNat + 1) 6 := h.txi
  refine ⟨h'.still, h.only.trans h'.only, ?_, ?_, ?_⟩
  · rw [h'.txi, htxi, List.length_cons]
    omega
  · rw [h'.script, h.script, List.drop_drop, List.length_singleton, List.length_cons, Nat.add_comm]
  · rw [h'.wire, h.wire, hreq, htxi, sentFrom_min, sentFrom_cons, sentFrom_cons, List.append_assoc]
    rfl

/-- A step and then a run make a run one byte longer. -/
theorem SeekingRun.steps_cons {s m : State} {b : Byte} {rxs : List Byte} {k : Nat} (hstep : step s = .next m)
    (h : SeekingRun s [b] m) (hrest : ∃ t, steps k m = .next t ∧ SeekingRun m rxs t) :
    ∃ t, steps (k + 1) s = .next t ∧ SeekingRun s (b :: rxs) t := by
  obtain ⟨t, hsteps, hrun⟩ := hrest
  exact ⟨t, (steps_succ hstep k).trans hsteps, h.cons hrun⟩

/-- The listed answers, none of them the sync byte but perhaps that of the first transfer, leave it seeking (R168 b). -/
theorem StillSeeking.steps_script {rest : List Byte} (rxs : List Byte) : ∀ s : State, StillSeeking s →
    s.script = rxs ++ rest → noSync (if s.txi.toNat = 0 then rxs.tail else rxs) →
    ∃ t, steps rxs.length s = .next t ∧ SeekingRun s rxs t := by
  induction rxs with
  | nil => exact fun s h _ _ => ⟨s, rfl, .nil h⟩
  | cons b rxs ih =>
    intro s h hs hno
    have hb : s.txi.toNat = 0 ∨ b ≠ 0xFF := by
      by_cases h0 : s.txi.toNat = 0
      · exact .inl h0
      · rw [if_neg h0] at hno
        exact .inr (hno b (by simp))
    have hlater : noSync rxs := by
      split_ifs at hno
      · exact hno
      · exact fun x hx => hno x (by simp [hx])
    obtain ⟨m, hstep, hone⟩ := h.step (linkReturns_cons hs) hb
    have htxi : m.txi.toNat ≠ 0 := by rw [hone.txi]; simp
    exact hone.steps_cons hstep (ih m hone.still (by rw [hone.script, hs]; rfl) (by rwa [if_neg htxi]))

/-- A line held at another byte than the sync byte leaves it seeking for ever (R168 b). -/
theorem StillSeeking.steps_held {b : Byte} (hb : b ≠ 0xFF) (k : Nat) : ∀ s : State, StillSeeking s → s.script = [] →
    s.tail = .repeats b → ∃ t, steps k s = .next t ∧ SeekingRun s (List.replicate k b) t := by
  induction k with
  | zero => exact fun s h _ _ => ⟨s, rfl, .nil h⟩
  | succ k ih =>
    intro s h hs ht
    obtain ⟨m, hstep, hone⟩ := h.step (linkReturns_repeats hs ht) (.inr hb)
    obtain ⟨-, htail, -⟩ := hone.only.fields
    exact hone.steps_cons hstep (ih m hone.still (by rw [hone.script, hs]; rfl) (htail.trans ht))

/-- Settles O53: a run that stays seeking changes only what every transfer changes; TXI, counted to 6, gives the phase. -/
theorem seekingHangs : Obligations.SeekingHangs := by
  refine ⟨fun s rxs rest hi hr hx hsync hs hno => ?_, fun s b hi hr hx hsync hs ht hb k => ?_⟩
  · have h : StillSeeking s := ⟨hi, hr, hx, hsync⟩
    simp only [h.first_iff] at hno
    obtain ⟨t, hsteps, hrun⟩ := h.steps_script rxs s hs hno
    obtain ⟨-, -, hreply, hsuccess, hresOk, hresA, hresB⟩ := hrun.only.fields
    refine ⟨t, hsteps, hrun.still.busy, hrun.still.running, hrun.still.rxn, hrun.still.seeking,
      fun hsix => hrun.still.fill (by rw [hrun.txi]; omega), hreply, hsuccess, hresOk, hresA, hresB, ?_, ?_⟩
    · rw [hrun.script, hs, List.drop_left]
    · rw [hrun.wire, zipWith_eq_sentFrom _ h.txi_le]
  · have h : StillSeeking s := ⟨hi, hr, by simp [hx], hsync⟩
    have hsix : s.txi.toNat = 6 := by rw [(hi.phaseTwo hx).1]; rfl
    obtain ⟨t, hsteps, hrun⟩ := h.steps_held hb k s hs ht
    obtain ⟨hfill, htxi⟩ := hrun.still.fill (by rw [hrun.txi]; omega)
    obtain ⟨-, -, -, -, hresOk, -⟩ := hrun.only.fields
    refine ⟨t, hsteps, hrun.still.busy, hfill, htxi, hrun.still.rxn, hrun.still.seeking, hresOk, ?_⟩
    rw [hrun.wire, hsix, sentFrom_replicate]

end Sys2Proof.Machine

namespace Sys2Proof.Machine

/-! ## ASSIGN: the primer, polls and the sentinel (R191 to R194) -/

/-- The state after the primer transfer (R191). -/
def primed (rx : Byte) (s : State) : State := { recordXfer s.params.primer rx s with estate := .poll }

/-- The state after the transfer of a poll (R192). -/
def polled (rx : Byte) (s : State) : State := { recordXfer 0x00 rx s with erx := rx }

theorem execAssign_primed {a : Byte} {d : Half} {s : State} {rx : Byte} (h : Running 1 a d s)
    (hest : s.estate = .primer) (hl : linkReturns s.params.primer s = some rx) :
    execAssign a d s = .next (primed rx s) :=
  (execAssign_primer h hest).trans (xfer_of_answer hl _)

theorem execAssign_polled {a : Byte} {d : Half} {s : State} {rx : Byte} (h : Running 1 a d s)
    (hest : s.estate = .poll) (hl : linkReturns 0x00 s = some rx) :
    execAssign a d s = if notYetAnswered rx then .next (polled rx s) else .next (endAssign (polled rx s)) :=
  (execAssign_poll h hest).trans (xfer_of_answer hl _)

theorem notYetAnswered_eq_false {rx : Byte} (h0 : rx ≠ 0x00) (hff : rx ≠ 0xFF) : notYetAnswered rx = false := by
  rw [← Bool.not_eq_true, notYetAnswered_iff]
  exact not_or.mpr ⟨h0, hff⟩

/-- Settles O23: Wf rules out a primer of 0x00; the answer is only recorded on the wire. -/
theorem assignPrimer : Obligations.AssignPrimer := by
  intro s a d rx hwf hh hop ha hd hest hl
  obtain ⟨-, hprimer⟩ := hwf
  exact ⟨hprimer, execAssign_primed ⟨hh, hop, ha, hd⟩ hest hl⟩

/-- Settles O24: neither byte is a sentinel, so the poll only records and keeps the answer. -/
theorem assignPollGoesOn : Obligations.AssignPollGoesOn := by
  intro s a d rx hh hop ha hd hest hl hrx
  exact (execAssign_polled ⟨hh, hop, ha, hd⟩ hest hl).trans (if_pos ((notYetAnswered_iff rx).mpr hrx))

/-- Settles O25: the byte is a sentinel, and it is not 0, so subtracting one does not wrap. -/
theorem sentinelEndsAssign : Obligations.SentinelEndsAssign := by
  intro s a d rx hh hop ha hd hest hl h0 hff
  have hrx := notYetAnswered_eq_false h0 hff
  refine ⟨by bv_omega, slaveCount_le hrx, ?_⟩
  exact (execAssign_polled ⟨hh, hop, ha, hd⟩ hest hl).trans (if_neg (by simp [hrx]))

/-! ## Runs of ASSIGN (R197, R200) -/

/-- The engine is in the enumeration's phase `e` and is not being reset. -/
structure Enumerating (e : EState) (s : State) : Prop where
  noReset : s.rst = false
  busy : s.hstate = .busy
  assign : s.curOp = 1
  phase : s.estate = e

/-- A step of an enumeration is a step of ASSIGN with the latched operands (R24, R198). -/
theorem Enumerating.step_eq {e : EState} {s : State} (h : Enumerating e s) :
    step s = execAssign s.opAddr s.opDur s :=
  step_running (i := .assign _ _) h.noReset h.busy (by rw [decodeCommand_latchedWord, h.assign]; rfl)

theorem Enumerating.running {e : EState} {s : State} (h : Enumerating e s) : Running 1 s.opAddr s.opDur s :=
  ⟨h.busy, h.assign, rfl, rfl⟩

theorem Enumerating.step_primed {s : State} {rx : Byte} (h : Enumerating .primer s)
    (hl : linkReturns s.params.primer s = some rx) : step s = .next (primed rx s) :=
  h.step_eq.trans (execAssign_primed h.running h.phase hl)

theorem enumerating_primed {s : State} (h : Enumerating .primer s) (rx : Byte) : Enumerating .poll (primed rx s) :=
  ⟨h.noReset, h.busy, h.assign, rfl⟩

theorem Enumerating.step_polled {s : State} {rx : Byte} (h : Enumerating .poll s) (hl : linkReturns 0x00 s = some rx)
    (hrx : notYetAnswered rx = true) : step s = .next (polled rx s) :=
  h.step_eq.trans ((execAssign_polled h.running h.phase hl).trans (if_pos hrx))

theorem enumerating_polled {s : State} (h : Enumerating .poll s) (rx : Byte) : Enumerating .poll (polled rx s) :=
  ⟨h.noReset, h.busy, h.assign, h.phase⟩

/-- The state after the transfers of polls that received `rxs`. -/
def polledAll (rxs : List Byte) (s : State) : State :=
  { s with erx := rxs.getLastD s.erx, script := s.script.drop rxs.length, wire := s.wire ++ rxs.map (.xfer 0x00) }

theorem polledAll_nil (s : State) : polledAll [] s = s := by
  simp [polledAll]

theorem polledAll_cons (rx : Byte) (rxs : List Byte) (s : State) :
    polledAll (rx :: rxs) s = polledAll rxs (polled rx s) := by
  simp only [polledAll, polled, recordXfer, List.getLastD_cons, List.length_cons, List.drop_tail, List.map_cons,
    List.append_assoc, List.singleton_append]

theorem enumerating_polledAll {s : State} (h : Enumerating .poll s) (rxs : List Byte) :
    Enumerating .poll (polledAll rxs s) :=
  ⟨h.noReset, h.busy, h.assign, h.phase⟩

theorem script_polledAll {s : State} {waits rest : List Byte} (hs : s.script = waits ++ rest) :
    (polledAll waits s).script = rest := by
  simp [polledAll, hs]

/-- Listed answers, none of them a sentinel, leave it polling (R192, R197). -/
theorem Enumerating.steps_script {rest : List Byte} (waits : List Byte) : ∀ s : State, Enumerating .poll s →
    s.script = waits ++ rest → allNotYet waits → steps waits.length s = .next (polledAll waits s) := by
  induction waits with
  | nil => exact fun s _ _ _ => by rw [polledAll_nil]; rfl
  | cons rx waits ih =>
    intro s h hs hno
    obtain ⟨hrx, hwaits⟩ := List.forall_mem_cons.mp hno
    have htail : (polled rx s).script = waits ++ rest := congrArg List.tail hs
    rw [polledAll_cons, List.length_cons, steps_succ (h.step_polled (linkReturns_cons hs _) hrx)]
    exact ih _ (enumerating_polled h rx) htail hwaits

/-- A line held at a byte that is no sentinel leaves it polling for ever (R197). -/
theorem Enumerating.steps_held {b : Byte} (hb : notYetAnswered b = true) (k : Nat) : ∀ s : State,
    Enumerating .poll s → s.script = [] → s.tail = .repeats b →
    steps k s = .next (polledAll (List.replicate k b) s) := by
  induction k with
  | zero => exact fun s _ _ _ => by rw [List.replicate_zero, polledAll_nil]; rfl
  | succ k ih =>
    intro s h hs ht
    have hnone : (polled b s).script = [] := congrArg List.tail hs
    rw [List.replicate_succ, polledAll_cons, steps_succ (h.step_polled (linkReturns_repeats hs ht _) hb)]
    exact ih _ (enumerating_polled h b) hnone ht

/-- From the primer on: the primer's answer, whatever it is, and then the polls (R191, R192). -/
theorem Enumerating.steps_primer {s : State} {first : Byte} {waits rest : List Byte} (h : Enumerating .primer s)
    (hs : s.script = first :: (waits ++ rest)) (hno : allNotYet waits) :
    steps (waits.length + 1) s = .next (polledAll waits (primed first s)) := by
  have htail : (primed first s).script = waits ++ rest := congrArg List.tail hs
  rw [steps_succ (h.step_primed (linkReturns_cons hs _))]
  exact (enumerating_primed h first).steps_script waits _ htail hno

theorem wire_polledAll_primed (waits : List Byte) (first : Byte) (s : State) :
    (polledAll waits (primed first s)).wire = s.wire ++ assignEvents s.params.primer first waits :=
  List.append_assoc ..

/-- Settles O54: polls change only ERX, the script and the wire. -/
theorem pollingHangs : Obligations.PollingHangs := by
  refine ⟨fun s first waits rest hr hh hop hest hs hno => ?_, fun s waits rest hr hh hop hest hs hno => ?_,
    fun s b hr hh hop hest hs ht hb k => ?_⟩
  · have h : Enumerating .primer s := ⟨hr, hh, hop, hest⟩
    exact ⟨_, h.steps_primer hs hno, hh, hop, rfl, rfl, rfl, rfl, rfl, rfl, script_polledAll (congrArg List.tail hs),
      wire_polledAll_primed waits first s⟩
  · have h : Enumerating .poll s := ⟨hr, hh, hop, hest⟩
    exact ⟨_, h.steps_script waits s hs hno, hh, hop, hest, rfl, rfl, rfl, rfl, rfl, script_polledAll hs, rfl⟩
  · have h : Enumerating .poll s := ⟨hr, hh, hop, hest⟩
    exact ⟨_, h.steps_held ((notYetAnswered_iff b).mpr hb) k s hs ht, hh, hest, rfl, rfl,
      congrArg (s.wire ++ ·) List.map_replicate⟩

/-- A count that the chain can encode has a sentinel that is neither 0x00 nor 0xFF (R193, R200). -/
theorem notYetAnswered_succ {n : Byte} (h : n.toNat ≤ 253) : notYetAnswered (n + 1) = false :=
  notYetAnswered_eq_false (by bv_omega) (by bv_omega)

/-- The whole enumeration from the primer on: the poll after the waiting ones receives the sentinel (R200). -/
theorem Enumerating.steps_counts {s : State} {first sentinel : Byte} {waits rest : List Byte}
    (h : Enumerating .primer s) (hs : s.script = first :: (waits ++ sentinel :: rest)) (hno : allNotYet waits)
    (hsentinel : notYetAnswered sentinel = false) :
    steps (waits.length + 2) s = .next (endAssign (polled sentinel (polledAll waits (primed first s)))) := by
  have hscript : (polledAll waits (primed first s)).script = sentinel :: rest :=
    script_polledAll (congrArg List.tail hs)
  obtain ⟨hr, hh, hop, hest⟩ := enumerating_polledAll (enumerating_primed h first) waits
  have hend := step_sentinel hr hh hop hest (linkReturns_cons hscript _) hsentinel
  exact (steps_add (h.steps_primer hs hno) 1).trans (steps_succ hend 0)

/-- Settles O26: the step that accepts ASSIGN, and then the whole enumeration; taking one from `n + 1` gives `n`. -/
theorem assignCounts : Obligations.AssignCounts := by
  intro s w ws a d first waits n rest hr hh hc hw hno hn hs
  have haccept := (step_offered hr hh hc hw).trans (execAssign_idle (s := { s with cmds := ws }) hh a d)
  have h : Enumerating .primer { accept 1 a d { s with cmds := ws } with estate := .primer } := ⟨hr, rfl, rfl, rfl⟩
  rw [steps_succ haccept, h.steps_counts hs hno (notYetAnswered_succ hn)]
  simp [endAssign, endCommand, slaveCount, polled, recordXfer, polledAll, primed, accept, assignEvents, Config.fillerTx,
    hs, hh]

end Sys2Proof.Machine

namespace Sys2Proof.Machine

/-! ## The commands that end in the step that accepts them (R214, R216, R217, R225) -/

theorem beginScan_zero (s : State) : beginScan 0 s = endDeviceOp true 0x00 0x00 s := if_pos rfl

theorem execSetDebug_idle {s : State} (hh : s.hstate = .idle) (level : Byte) (d : Half) :
    execSetDebug level d s = .next (endCommand true 0x00 0x00 { accept 7 level d s with debugLevel := level }) := by
  simp only [execSetDebug, hh]

theorem execBusReset_idle {s : State} (hh : s.hstate = .idle) (a : Byte) (d : Half) :
    execBusReset a d s = .next (endCommand true 0x00 0x00 { busResetEvent s with numValid := false }) := by
  simp only [execBusReset, hh]

/-- Settles O28: a scan of no address is ended where another one begins. -/
theorem emptyScan : Obligations.EmptyScan := by
  intro s d hh
  have hexec : exec (.checkAll 0 d) s = .next (endDeviceOp true 0x00 0x00 (accept 5 0 d s)) :=
    (deviceOp_idle hh).trans (congrArg _ (beginScan_zero _))
  rw [hexec, hh]
  rfl

/-- Settles O39: acceptance, the level, and the end of the command, which is idle again. -/
theorem setDebugStores : Obligations.SetDebugStores := by
  intro s level d hh
  refine (execSetDebug_idle hh level d).trans ?_
  rw [hh]
  rfl

/-- Settles O40: the event, the validity, and the end of the command; nothing is latched. -/
theorem busResetClearsSession : Obligations.BusResetClearsSession := by
  intro s a d hh
  refine (execBusReset_idle hh a d).trans ?_
  rw [hh]
  rfl

end Sys2Proof.Machine

namespace Sys2Proof.Machine

/-! ## A device operation between two exchanges (R210 to R215) -/

theorem buildInCmd_cmd {s : State} (hseq : s.seq = .cmd) (build : State → Result) : buildInCmd build s = build s := by
  simp only [buildInCmd, hseq]

theorem buildScan_cmd {s : State} (hseq : s.seq = .cmd) : buildScan s = execReqCheck s.scanAddr s := by
  simp only [buildScan, hseq]

theorem buildScan_fetch {s : State} (hseq : s.seq = .fetch) : buildScan s = execReqResponse s.scanAddr s := by
  simp only [buildScan, hseq]

theorem buildGetState_cmd {s : State} (hseq : s.seq = .cmd) (addr : Byte) :
    buildGetState addr s = execReqGetState addr s := by
  simp only [buildGetState, hseq]

theorem buildGetState_fetch {s : State} (hseq : s.seq = .fetch) (addr : Byte) :
    buildGetState addr s = execReqResponse addr s := by
  simp only [buildGetState, hseq]

/-- Between exchanges the step of a device operation is the start of the exchange of the request it builds (R210). -/
theorem deviceOp_starts {op : BitVec 3} {a : Byte} {d : Half} {begin : State → State}
    {build resume : State → Result} {s u : State} (hrun : Running op a d s) (hx : s.xph = .idle)
    (hb : build s = .next u) : deviceOp op a d begin build resume s = execExchange u := by
  obtain ⟨hh, hop, ha, hd⟩ := hrun
  rw [deviceOp_busy hh hop ha hd, drivePair_idle hx hb]

/-- Settles O29: each command's request by CUR_OP and SEQ, and then X_start. -/
theorem deviceOpsBuild : Obligations.DeviceOpsBuild := by
  intro s a d hh ha hd hx
  have hrun : ∀ {op}, s.curOp = op → Running op a d s := fun hop => ⟨hh, hop, ha, hd⟩
  exact ⟨fun hop hseq => ⟨_, rfl, deviceOp_starts (hrun hop) hx (buildInCmd_cmd hseq _)⟩,
    fun hop hseq => ⟨_, rfl, deviceOp_starts (hrun hop) hx (buildInCmd_cmd hseq _)⟩,
    fun hop hseq => ⟨_, rfl, deviceOp_starts (hrun hop) hx (buildInCmd_cmd hseq _)⟩,
    fun hop hseq => ⟨_, rfl, deviceOp_starts (hrun hop) hx (buildScan_cmd hseq)⟩,
    fun hop hseq => ⟨_, rfl, deviceOp_starts (hrun hop) hx (buildScan_fetch hseq)⟩,
    fun hop hseq => ⟨_, rfl, deviceOp_starts (hrun hop) hx (buildGetState_cmd hseq a)⟩,
    fun hop hseq => ⟨_, rfl, deviceOp_starts (hrun hop) hx (buildGetState_fetch hseq a)⟩⟩

/-! ## What the sequencer does when an exchange returns (R211 to R215) -/

/-- `return (SUCCESS, 0, 0)`: a transmission error with both fields 0 ends the command as a failed echo does. -/
theorem returnSuccess_eq (s : State) : returnSuccess s = .next (endDeviceOp s.success 0x00 0x00 s) := by
  unfold returnSuccess
  split
  next h => rw [h]
  next h => rw [Bool.eq_false_iff.mpr h]; rfl

theorem resumeScan_failed (count : Byte) {s : State} (h : s.success = false) :
    resumeScan count s = .next (takeTransmissionError true true s) := by
  simp [resumeScan, h]

theorem resumeScan_cmd (count : Byte) {s : State} (h : s.success = true) (hseq : s.seq = .cmd) :
    resumeScan count s = .next { s with seq := .fetch } := by
  simp [resumeScan, h, hseq]

theorem resumeScan_fetch (count : Byte) {s : State} (h : s.success = true) (hseq : s.seq = .fetch) :
    resumeScan count s = .next (scanVerdict count s) := by
  simp [resumeScan, h, hseq]

theorem resumeGetState_failed {s : State} (h : s.success = false) :
    resumeGetState s = .next (takeTransmissionError true false s) := by
  simp [resumeGetState, h]

theorem resumeGetState_cmd {s : State} (h : s.success = true) (hseq : s.seq = .cmd) :
    resumeGetState s = .next { s with seq := .fetch } := by
  simp [resumeGetState, h, hseq]

theorem resumeGetState_fetch {s : State} (h : s.success = true) (hseq : s.seq = .fetch) :
    resumeGetState s = .next (endDeviceOp true (statusByte s) 0x00 s) := by
  simp [resumeGetState, h, hseq]

/-! What the verdict on an address is (R214). -/

theorem scanVerdict_fault {s : State} (count : Byte) (h : s.reply.payload0 ≠ 0x00) :
    scanVerdict count s = endDeviceOp true s.scanAddr s.reply.payload0 s := if_pos h

theorem scanVerdict_last {s : State} {count : Byte} (h : s.reply.payload0 = 0x00) (hlast : s.scanAddr = count) :
    scanVerdict count s = endDeviceOp true 0x00 0x00 s := by
  simp [scanVerdict, statusByte, h, hlast]

theorem scanVerdict_next {s : State} {count : Byte} (h : s.reply.payload0 = 0x00) (hmore : s.scanAddr ≠ count) :
    scanVerdict count s = { s with scanAddr := s.scanAddr + 1, seq := .cmd } := by
  simp [scanVerdict, statusByte, h, hmore]

/-! ## The step of the last transfer of an exchange (R162, R166, R210) -/

/-- The next transfer receives `rx`, which is the sixth byte of the reply. -/
def LastTransfer (rx : Byte) (s : State) : Prop :=
  s.xph = .fill ∧ s.rxn = 5 ∧ s.sync = .accepting ∧ linkReturns 0x00 s = some rx

/-- What the last transfer of an exchange leaves, which received `rx` (R155, R162, R166). -/
def returned (rx : Byte) (s : State) : State :=
  { s with
    reply := { s.reply with payload1 := rx }, rxn := 6, sync := .accepting, xph := .idle
    success := verify s.params s.req { s.reply with payload1 := rx }
    script := s.script.tail, wire := s.wire ++ [.xfer 0x00 rx]
    trace := (transferred 0x00 rx s).trace, traceDraws := (transferred 0x00 rx s).traceDraws }

theorem execExchange_lastTransfer {rx : Byte} {s : State} (h : LastTransfer rx s) :
    execExchange s = .next (returned rx s) := by
  obtain ⟨hx, hrxn, hsync, hrx⟩ := h
  have hr : s.reply.set? s.rxn.toNat rx = some { s.reply with payload1 := rx } := by rw [hrxn]; rfl
  have he := execExchange_accept (by simp [hx]) (byteToSend_fill hx) hrx (acceptsByte_later (.inr hx) (.inl hsync)) hr
  rw [settleExchange_full (by simp [hrxn]), transferred_of_fill (by simp [hx])] at he
  rw [he, hrxn]
  rfl

/-- The sequencer does what it does on the exchange's return in the step of the last transfer (R166, R210). -/
theorem deviceOp_returns {op : BitVec 3} {a : Byte} {d : Half} {begin : State → State}
    {build resume : State → Result} {s : State} {rx : Byte} (hrun : Running op a d s) (hlast : LastTransfer rx s) :
    deviceOp op a d begin build resume s = resume (returned rx s) := by
  have ⟨hfill, _⟩ := hlast
  obtain ⟨hh, hop, ha, hd⟩ := hrun
  rw [deviceOp_busy hh hop ha hd, drivePair_transfer (by simp [hfill]) (execExchange_lastTransfer hlast)]
  exact if_pos rfl

/-- Settles O30: the three operations do the same on the return of their one exchange. -/
theorem oneExchangeOpsComplete : Obligations.OneExchangeOpsComplete := by
  intro s a d rx i hh ha hd hx hrxn hsync hrx hi
  have hlast : LastTransfer rx s := ⟨hx, hrxn, hsync, hrx⟩
  have hexec : exec i s = returnSuccess (returned rx s) := by
    rcases hi with ⟨hop, rfl⟩ | ⟨hop, rfl⟩ | ⟨hop, rfl⟩ <;>
      exact deviceOp_returns ⟨hh, hop, ha, hd⟩ hlast
  exact ⟨_, hexec.trans (returnSuccess_eq _), rfl, rfl, rfl, rfl, rfl, rfl, rfl, rfl, rfl, rfl, rfl, rfl⟩

/-- Settles O31: the verdict and SEQ decide what GETSTATE does on the exchange's return. -/
theorem getStateReturns : Obligations.GetStateReturns := by
  intro s a d rx hh hop ha hd hx hrxn hsync hrx
  have hexec : exec (.getState a d) s = resumeGetState (returned rx s) :=
    deviceOp_returns ⟨hh, hop, ha, hd⟩ ⟨hx, hrxn, hsync, hrx⟩
  refine ⟨fun hv => ?_, fun hv hseq => ?_, fun hv hseq => ?_⟩
  · exact ⟨_, hexec.trans (resumeGetState_failed hv), rfl, rfl, rfl, rfl, rfl, rfl, rfl⟩
  · exact ⟨_, hexec.trans (resumeGetState_cmd hv hseq), hh, rfl, rfl, rfl, rfl, rfl⟩
  · exact ⟨_, hexec.trans (resumeGetState_fetch hv hseq), rfl, rfl, rfl, rfl, rfl, rfl, rfl⟩

/-- Settles O32: the verdict and SEQ, and after the fetch the status and the address, decide what the scan does. -/
theorem scanReturns : Obligations.ScanReturns := by
  intro s count d rx hh hop ha hd hx hrxn hsync hrx
  have hexec : exec (.checkAll count d) s = resumeScan count (returned rx s) :=
    deviceOp_returns ⟨hh, hop, ha, hd⟩ ⟨hx, hrxn, hsync, hrx⟩
  refine ⟨fun hv => ?_, fun hv hseq => ?_, fun hv hseq => ⟨_, hexec.trans (resumeScan_fetch count hv hseq), ?_⟩⟩
  · exact ⟨_, hexec.trans (resumeScan_failed count hv), rfl, rfl, rfl, rfl, rfl, rfl, rfl⟩
  · exact ⟨_, hexec.trans (resumeScan_cmd count hv hseq), hh, rfl, rfl, rfl⟩
  · split_ifs with hstatus hlast
    · rw [scanVerdict_fault count (s := returned rx s) hstatus]
      exact ⟨rfl, rfl, rfl, rfl, rfl⟩
    · rw [scanVerdict_last (s := returned rx s) (not_not.mp hstatus) hlast]
      exact ⟨rfl, rfl, rfl, rfl, rfl⟩
    · rw [scanVerdict_next (s := returned rx s) (not_not.mp hstatus) hlast]
      refine ⟨hh, rfl, rfl, rfl, fun hle => ?_⟩
      change (s.scanAddr + 1).toNat = _
      bv_omega

end Sys2Proof.Machine

namespace Sys2Proof.Machine

/-! ## The frame of the device operations (R219, R256) -/

/-- `t` is `s` after something the sequencer does outside an exchange: it writes SEQ, and SCAN_ADDR when `scan`; the
results only with the end of the command. -/
structure Sequenced (scan : Prop) (s t : State) : Prop where
  only : t = { s with
    hstate := t.hstate, seq := t.seq, scanAddr := t.scanAddr, resOk := t.resOk, resA := t.resA, resB := t.resB
    resWritten := t.resWritten, draws := t.draws }
  scanAddr : ¬scan → t.scanAddr = s.scanAddr
  results : t.hstate = .busy →
    t.resOk = s.resOk ∧ t.resA = s.resA ∧ t.resB = s.resB ∧ t.resWritten = s.resWritten ∧ t.draws = s.draws

theorem Sequenced.refl (scan : Prop) (s : State) : Sequenced scan s s :=
  ⟨rfl, fun _ => rfl, fun _ => ⟨rfl, rfl, rfl, rfl, rfl⟩⟩

theorem sequenced_phase (scan : Prop) (s : State) (phase : SeqPhase) : Sequenced scan s { s with seq := phase } :=
  ⟨rfl, fun _ => rfl, fun _ => ⟨rfl, rfl, rfl, rfl, rfl⟩⟩

theorem sequenced_address {scan : Prop} (hscan : scan) (s : State) (addr : Byte) (phase : SeqPhase) :
    Sequenced scan s { s with scanAddr := addr, seq := phase } :=
  ⟨rfl, absurd hscan, fun _ => ⟨rfl, rfl, rfl, rfl, rfl⟩⟩

theorem sequenced_endDeviceOp (scan : Prop) (ok : Bool) (a b : Byte) (s : State) :
    Sequenced scan s (endDeviceOp ok a b s) :=
  ⟨rfl, fun _ => rfl, nofun⟩

theorem sequenced_takeTransmissionError (scan : Prop) (openA openB : Bool) (s : State) :
    Sequenced scan s (takeTransmissionError openA openB s) :=
  ⟨rfl, fun _ => rfl, nofun⟩

theorem sequenced_beginScan {scan : Prop} (hscan : scan) (count : Byte) (s : State) :
    Sequenced scan s (beginScan count s) := by
  unfold beginScan
  split_ifs
  · exact sequenced_endDeviceOp ..
  · exact sequenced_address hscan ..

theorem sequenced_scanVerdict {scan : Prop} (hscan : scan) (count : Byte) (s : State) :
    Sequenced scan s (scanVerdict count s) := by
  unfold scanVerdict
  split_ifs
  · exact sequenced_endDeviceOp ..
  · exact sequenced_endDeviceOp ..
  · exact sequenced_address hscan ..

theorem sequenced_returnSuccess (scan : Prop) {s t : State} (h : returnSuccess s = .next t) : Sequenced scan s t := by
  rw [returnSuccess_eq] at h
  cases h
  exact sequenced_endDeviceOp ..

theorem sequenced_resumeScan {scan : Prop} (hscan : scan) {count : Byte} {s t : State}
    (h : resumeScan count s = .next t) : Sequenced scan s t := by
  unfold resumeScan at h
  split at h
  · split at h <;> cases h
    · exact sequenced_phase ..
    · exact sequenced_scanVerdict hscan count s
  · cases h
    exact sequenced_takeTransmissionError ..

theorem sequenced_resumeGetState (scan : Prop) {s t : State} (h : resumeGetState s = .next t) :
    Sequenced scan s t := by
  unfold resumeGetState at h
  split at h
  · split at h <;> cases h
    · exact sequenced_phase ..
    · exact sequenced_endDeviceOp ..
  · cases h
    exact sequenced_takeTransmissionError ..

/-- What `build` does between exchanges is one write of REQ (R130). -/
def OnlyBuilds (build : State → Result) : Prop := ∀ s u, build s = .next u → ∃ f, u = writeRequest f s

theorem execBuild_onlyBuilds (kind : Kind) (addr p0 p1 : Byte) : OnlyBuilds (execBuild kind addr p0 p1) := by
  intro s u h
  cases h
  exact ⟨_, rfl⟩

theorem execReqDispense_onlyBuilds (addr : Byte) (d : Half) : OnlyBuilds (execReqDispense addr d) :=
  fun s u h => execBuild_onlyBuilds _ _ _ _ s u h

theorem OnlyBuilds.buildInCmd {build : State → Result} (hb : OnlyBuilds build) : OnlyBuilds (buildInCmd build) := by
  intro s u h
  unfold Machine.buildInCmd at h
  split at h
  · exact hb s u h
  all_goals cases h

theorem buildScan_onlyBuilds : OnlyBuilds buildScan := by
  intro s u h
  unfold buildScan at h
  split at h <;> cases h <;> exact ⟨_, rfl⟩

theorem buildGetState_onlyBuilds (addr : Byte) : OnlyBuilds (buildGetState addr) := by
  intro s u h
  unfold buildGetState at h
  split at h <;> cases h <;> exact ⟨_, rfl⟩

/-- `t` is `s` after one step of a device operation: its acceptance, the start of an exchange of the request it has
built, or a transfer and what the sequencer does after it (R166, R210). -/
def DeviceOpStep (scan : Prop) (s t : State) : Prop :=
  (s.hstate = .idle ∧ ∃ op a d, Sequenced scan (accept op a d s) t) ∨
  (s.hstate = .busy ∧ s.xph = .idle ∧ ∃ f, t = startExchange (writeRequest f s)) ∨
  (s.hstate = .busy ∧ s.xph ≠ .idle ∧ ∃ u, execExchange s = .next u ∧ Sequenced scan u t)

theorem deviceOp_step {scan : Prop} {op : BitVec 3} {a : Byte} {d : Half} {begin : State → State}
    {build resume : State → Result} (hbegin : ∀ u, Sequenced scan u (begin u)) (hbuild : OnlyBuilds build)
    (hresume : ∀ {u v}, resume u = .next v → Sequenced scan u v) {s t : State}
    (h : deviceOp op a d begin build resume s = .next t) : DeviceOpStep scan s t := by
  rcases deviceOp_cases h with ⟨hh, rfl⟩ | ⟨hh, -, -, -, hpair⟩
  · exact .inl ⟨hh, op, a, d, hbegin _⟩
  · rcases drivePair_cases hpair with ⟨u, hx, hb, he⟩ | ⟨u, hx, he, ⟨-, rfl⟩ | ⟨-, hr⟩⟩
    · obtain ⟨f, rfl⟩ := hbuild s u hb
      cases (execExchange_idle (s := writeRequest f s) hx).symm.trans he
      exact .inr (.inl ⟨hh, hx, f, rfl⟩)
    · exact .inr (.inr ⟨hh, hx, t, he, .refl scan t⟩)
    · exact .inr (.inr ⟨hh, hx, u, he, hresume hr⟩)

theorem oneExchangeOp_step (scan : Prop) {op : BitVec 3} {a : Byte} {d : Half} {build : State → Result}
    (hbuild : OnlyBuilds build) {s t : State}
    (h : deviceOp op a d beginCommand (buildInCmd build) returnSuccess s = .next t) : DeviceOpStep scan s t :=
  deviceOp_step (sequenced_phase scan · .cmd) hbuild.buildInCmd (sequenced_returnSuccess scan) h

/-- A step of one of the five operations; only CHECKALL's writes SCAN_ADDR (R32). -/
theorem exec_deviceOpStep {s t : State} {i : Instr} {a : Byte} {d : Half}
    (hi : i = .turnOn a d ∨ i = .turnOff a d ∨ i = .dispense a d ∨ i = .checkAll a d ∨ i = .getState a d)
    (h : exec i s = .next t) : DeviceOpStep (i = .checkAll a d) s t := by
  rcases hi with rfl | rfl | rfl | rfl | rfl
  · exact oneExchangeOp_step _ (execBuild_onlyBuilds _ _ _ _) h
  · exact oneExchangeOp_step _ (execBuild_onlyBuilds _ _ _ _) h
  · exact oneExchangeOp_step _ (execReqDispense_onlyBuilds a d) h
  · exact deviceOp_step (sequenced_beginScan rfl a) buildScan_onlyBuilds (sequenced_resumeScan rfl) h
  · exact deviceOp_step (sequenced_phase _ · .cmd) (buildGetState_onlyBuilds a) (sequenced_resumeGetState _) h

/-- Settles O33: acceptance, the start of an exchange, and a transfer, each with what it leaves. -/
theorem deviceOpsFrame : Obligations.DeviceOpsFrame := by
  intro s t i a d hi h
  rcases exec_deviceOpStep hi h with ⟨hh, op, a', d', hseq⟩ | ⟨hh, hx, f, rfl⟩ | ⟨hh, hx, u, he, hseq⟩
  · rw [hseq.only]
    exact ⟨rfl, rfl, rfl, rfl, rfl, rfl, hseq.scanAddr, hseq.results, fun _ => ⟨rfl, rfl, rfl⟩, by simp [hh],
      fun _ => ⟨rfl, rfl, rfl, rfl⟩, by simp [hh]⟩
  · rw [startExchange_only]
    exact ⟨rfl, rfl, rfl, rfl, rfl, rfl, fun _ => rfl, fun _ => ⟨rfl, rfl, rfl, rfl, rfl⟩,
      fun _ => ⟨rfl, rfl, rfl⟩, fun _ => ⟨rfl, rfl, rfl⟩, by simp [hh], fun _ hno => absurd hx hno⟩
  · have honly := execExchange_only he
    have hscan := hseq.scanAddr
    have hresults := hseq.results
    rw [honly] at hscan hresults
    rw [hseq.only, honly]
    exact ⟨rfl, rfl, rfl, rfl, rfl, rfl, hscan, hresults, by simp [hh, hx], fun _ => ⟨rfl, rfl, rfl⟩, by simp [hh],
      fun _ _ => ⟨rfl, fun k hk => execExchange_otherOffsets he hx hk⟩⟩

end Sys2Proof.Machine

namespace Sys2Proof.Machine

/-! ## Whole exchanges of a device operation (R103, R166, R167, R210) -/

/-- `i` is the device operation `op` with the operands `a` and `d`, by its sequencer's three parts (R210). -/
structure IsDeviceOp (i : Instr) (op : BitVec 3) (a : Byte) (d : Half) (begin : State → State)
    (build resume : State → Result) : Prop where
  exec_eq : ∀ s, exec i s = deviceOp op a d begin build resume s
  latched : ∀ s : State, s.curOp = op → s.opAddr = a → s.opDur = d → decodeCommand (latchedWord s) = .instr i

theorem turnOn_isDeviceOp (a : Byte) (d : Half) : IsDeviceOp (.turnOn a d) 2 a d beginCommand
    (buildInCmd (execReqStart a)) returnSuccess :=
  ⟨fun _ => rfl, fun s hop ha hd => by rw [decodeCommand_latchedWord, hop, ha, hd]; rfl⟩

theorem turnOff_isDeviceOp (a : Byte) (d : Half) : IsDeviceOp (.turnOff a d) 3 a d beginCommand
    (buildInCmd (execReqStop a)) returnSuccess :=
  ⟨fun _ => rfl, fun s hop ha hd => by rw [decodeCommand_latchedWord, hop, ha, hd]; rfl⟩

theorem dispense_isDeviceOp (a : Byte) (d : Half) : IsDeviceOp (.dispense a d) 4 a d beginCommand
    (buildInCmd (execReqDispense a d)) returnSuccess :=
  ⟨fun _ => rfl, fun s hop ha hd => by rw [decodeCommand_latchedWord, hop, ha, hd]; rfl⟩

theorem checkAll_isDeviceOp (count : Byte) (d : Half) : IsDeviceOp (.checkAll count d) 5 count d (beginScan count)
    buildScan (resumeScan count) :=
  ⟨fun _ => rfl, fun s hop ha hd => by rw [decodeCommand_latchedWord, hop, ha, hd]; rfl⟩

theorem getState_isDeviceOp (a : Byte) (d : Half) : IsDeviceOp (.getState a d) 6 a d beginCommand
    (buildGetState a) resumeGetState :=
  ⟨fun _ => rfl, fun s hop ha hd => by rw [decodeCommand_latchedWord, hop, ha, hd]; rfl⟩

/-- The step that accepts an offered device operation (R103). -/
theorem IsDeviceOp.step_accepts {i : Instr} {op : BitVec 3} {a : Byte} {d : Half} {begin : State → State}
    {build resume : State → Result} (hi : IsDeviceOp i op a d begin build resume) {s : State} {w : Word32}
    {ws : List Word32} (hr : s.rst = false) (hh : s.hstate = .idle) (hc : s.cmds = w :: ws)
    (hw : decodeCommand w = .instr i) : step s = .next (begin (accept op a d { s with cmds := ws })) :=
  (step_offered hr hh hc hw).trans ((hi.exec_eq _).trans (deviceOp_idle hh))

theorem steps_first {s t : State} (h : step s = .next t) (k : Nat) : steps (1 + k) s = steps k t := by
  rw [Nat.add_comm, steps_succ h]

/-- The engine is between two exchanges of a device operation, in `phase` of its sequence (R24, R210). -/
structure Between (op : BitVec 3) (a : Byte) (d : Half) (phase : SeqPhase) (s : State) : Prop where
  running : Running op a d s
  noReset : s.rst = false
  quiet : s.xph = .idle
  phase : s.seq = phase

theorem Between.toFetch {op : BitVec 3} {a : Byte} {d : Half} {phase : SeqPhase} {s : State}
    (h : Between op a d phase s) : Between op a d .fetch { s with seq := .fetch } :=
  ⟨h.running, h.noReset, h.quiet, rfl⟩

/-- From `s` to `t` the engine has made the transfers `events` and no more, and has left `rest` of the script. -/
def Sent (events : List WireEvent) (rest : List Byte) (s t : State) : Prop :=
  t.wire = s.wire ++ events ∧ t.script = rest ∧ t.cmds = s.cmds ∧ sessionOf t = sessionOf s

theorem Sent.trans {s m t : State} {events events' : List WireEvent} {rest rest' : List Byte}
    (h : Sent events rest s m) (h' : Sent events' rest' m t) : Sent (events ++ events') rest' s t := by
  obtain ⟨hwire, -, hcmds, hsession⟩ := h
  obtain ⟨hwire', hscript', hcmds', hsession'⟩ := h'
  exact ⟨by rw [hwire', hwire, List.append_assoc], hscript', hcmds'.trans hcmds, hsession'.trans hsession⟩

theorem Sent.params {s t : State} {events : List WireEvent} {rest : List Byte} (h : Sent events rest s t) :
    t.params = s.params := by
  obtain ⟨-, -, -, hsession⟩ := h
  exact congrArg Prod.fst hsession

theorem Sent.script {s t : State} {events : List WireEvent} {rest : List Byte} (h : Sent events rest s t) :
    t.script = rest := by
  obtain ⟨-, hscript, -, -⟩ := h
  exact hscript

/-- `u` is `s` after an exchange of `f` that received `v`, before the sequencer goes on (R167). -/
structure Exchanged (op : BitVec 3) (a : Byte) (d : Half) (phase : SeqPhase) (f : Frame) (v : Delivery)
    (rest : List Byte) (s u : State) : Prop where
  between : Between op a d phase u
  address : u.scanAddr = s.scanAddr
  request : u.req = f
  reply : u.reply = v.frame
  verdict : u.success = verify s.params f v.frame
  sent : Sent (exchangeEvents f v.bytes) rest s u

theorem Between.exchanged {op : BitVec 3} {a : Byte} {d : Half} {phase : SeqPhase} {s u : State} {f : Frame}
    {v : Delivery} {rest : List Byte} (h : Between op a d phase s) (hu : EndsWith (writeRequest f s) v rest u) :
    Exchanged op a d phase f v rest s u := by
  obtain ⟨tr, td, rfl⟩ := hu
  exact ⟨⟨h.running, h.noReset, rfl, h.phase⟩, rfl, rfl, rfl, rfl, rfl, rfl, rfl, rfl⟩

/-- One exchange of a device operation that receives a delivery, with what the sequencer does on its return. -/
theorem Between.steps_exchange {i : Instr} {op : BitVec 3} {a : Byte} {d : Half} {begin : State → State}
    {build resume : State → Result} {phase : SeqPhase} {s : State} {f : Frame} {v : Delivery} {rest : List Byte}
    (h : Between op a d phase s) (hi : IsDeviceOp i op a d begin build resume)
    (hb : build s = .next (writeRequest f s)) (hv : v.clean) (hs : s.script = v.bytes ++ rest) :
    ∃ u, Exchanged op a d phase f v rest s u ∧ ∀ t, resume u = .next t → steps v.steps s = .next t := by
  obtain ⟨u, hu, hsteps⟩ := steps_pair h.running h.noReset h.quiet hi.exec_eq hi.latched hb hv hs
  exact ⟨u, h.exchanged hu, hsteps⟩

/-! ## TURNON, TURNOFF and DISPENSE (R211 to R213) -/

/-- A one-exchange operation from the offered word to its end. -/
theorem IsDeviceOp.steps_oneExchange {i : Instr} {op : BitVec 3} {a : Byte} {d : Half} {build : State → Result}
    (hi : IsDeviceOp i op a d beginCommand (buildInCmd build) returnSuccess) {s : State} {w : Word32}
    {ws : List Word32} {f : Frame} {v : Delivery} {rest : List Byte} (hr : s.rst = false) (hh : s.hstate = .idle)
    (hx : s.xph = .idle) (hc : s.cmds = w :: ws) (hw : decodeCommand w = .instr i) (hv : v.clean)
    (hs : s.script = v.bytes ++ rest) (hb : ∀ u : State, u.params = s.params → build u = .next (writeRequest f u)) :
    ∃ u, Exchanged op a d .cmd f v rest (beginCommand (accept op a d { s with cmds := ws })) u ∧
      steps (1 + v.steps) s = .next (endDeviceOp u.success 0x00 0x00 u) := by
  have h : Between op a d .cmd (beginCommand (accept op a d { s with cmds := ws })) :=
    ⟨⟨rfl, rfl, rfl, rfl⟩, hr, hx, rfl⟩
  obtain ⟨u, hu, hsteps⟩ := h.steps_exchange hi ((buildInCmd_cmd rfl build).trans (hb _ rfl)) hv hs
  exact ⟨u, hu, (steps_first (hi.step_accepts hr hh hc hw) _).trans (hsteps _ (returnSuccess_eq u))⟩

/-- Settles O34: the three operations differ in the request they build. -/
theorem oneExchangeCommandsRun : Obligations.OneExchangeCommandsRun := by
  intro s w ws a d req v rest hr hh hx hc hv hs hi
  obtain ⟨op, u, hu, hsteps⟩ : ∃ op u,
      Exchanged op a d .cmd req v rest (beginCommand (accept op a d { s with cmds := ws })) u ∧
        steps (1 + v.steps) s = .next (endDeviceOp u.success 0x00 0x00 u) := by
    rcases hi with ⟨hw, rfl⟩ | ⟨hw, rfl⟩ | ⟨hw, rfl⟩
    · exact ⟨2, (turnOn_isDeviceOp a d).steps_oneExchange hr hh hx hc hw hv hs fun u hu => by rw [← hu]; rfl⟩
    · exact ⟨3, (turnOff_isDeviceOp a d).steps_oneExchange hr hh hx hc hw hv hs fun u hu => by rw [← hu]; rfl⟩
    · exact ⟨4, (dispense_isDeviceOp a d).steps_oneExchange hr hh hx hc hw hv hs fun u hu => by rw [← hu]; rfl⟩
  obtain ⟨hwire, hscript, hcmds, hsession⟩ := hu.sent
  exact ⟨_, hsteps, hu.verdict, rfl, rfl, rfl, hu.between.quiet, rfl, hcmds, hscript, hu.request, hu.reply, hwire,
    hsession⟩

/-! ## GETSTATE (R215) -/

/-- The RESPONSE exchange of GETSTATE ends the command, with the status byte or with RES_OK = 0 (R215). -/
theorem Between.steps_getStateFetch {a : Byte} {d : Half} {s : State} {v : Delivery} {rest : List Byte}
    (h : Between 6 a d .fetch s) (hv : v.clean) (hs : s.script = v.bytes ++ rest) :
    ∃ t, steps v.steps s = .next t ∧ t.hstate = .idle ∧ t.seq = .none ∧ t.resB = 0x00 ∧
      t.resOk = verify s.params (placeholderFrame s.params .response a) v.frame ∧
      (t.resOk = true → t.resA = v.frame.payload0) ∧
      Sent (exchangeEvents (placeholderFrame s.params .response a) v.bytes) rest s t := by
  obtain ⟨u, hu, hsteps⟩ := h.steps_exchange (getState_isDeviceOp a d) (buildGetState_fetch h.phase a) hv hs
  cases hsuccess : u.success with
  | false =>
    exact ⟨_, hsteps _ (resumeGetState_failed hsuccess), rfl, rfl, rfl, hsuccess.symm.trans hu.verdict, nofun,
      hu.sent⟩
  | true =>
    exact ⟨_, hsteps _ (resumeGetState_fetch hsuccess hu.between.phase), rfl, rfl, rfl, hsuccess.symm.trans hu.verdict,
      fun _ => congrArg Frame.payload0 hu.reply, hu.sent⟩

/-- Settles O35: the first exchange ends the command or leads to the fetch, which ends it. -/
theorem getStateRun : Obligations.GetStateRun := by
  intro s w ws a d v1 v2 rest hr hh hx hc hw hv1 hv2 hs
  have hi := getState_isDeviceOp a d
  have h : Between 6 a d .cmd (beginCommand (accept 6 a d { s with cmds := ws })) :=
    ⟨⟨rfl, rfl, rfl, rfl⟩, hr, hx, rfl⟩
  obtain ⟨u, hu, hsteps⟩ := h.steps_exchange hi (buildGetState_cmd rfl a) hv1 hs
  have hfirst : ∀ t, resumeGetState u = .next t → steps (1 + v1.steps) s = .next t := fun t ht =>
    (steps_first (hi.step_accepts hr hh hc hw) _).trans (hsteps t ht)
  refine ⟨fun hfail => ?_, fun hok => ?_⟩
  · obtain ⟨hwire, hscript, -, hsession⟩ := hu.sent
    exact ⟨_, hfirst _ (resumeGetState_failed (hu.verdict.trans hfail)), rfl, rfl, rfl, hscript, hsession, hwire⟩
  · have hfetch := hfirst _ (resumeGetState_cmd (hu.verdict.trans hok) hu.between.phase)
    have hparams : u.params = s.params := hu.sent.params
    obtain ⟨t, ht, hidle, hseq, hresB, hresOk, hresA, hsent⟩ :=
      hu.between.toFetch.steps_getStateFetch hv2 hu.sent.script
    obtain ⟨hwire, hscript, hcmds, hsession⟩ := hu.sent.trans hsent
    rw [hparams] at hresOk hwire
    exact ⟨t, (steps_add hfetch _).trans ht, hidle, hseq, hresB, hresOk, hresA, hscript, hcmds, hsession,
      hwire.trans (List.append_assoc ..).symm⟩

end Sys2Proof.Machine

namespace Sys2Proof.Machine

/-! ## CHECKALL over a whole run (R214, R218, R303) -/

/-- Some number of engine steps takes `s` to `t`. -/
def Reaches (s t : State) : Prop := ∃ k, steps k s = .next t

theorem Reaches.trans {s m t : State} (h : Reaches s m) (h' : Reaches m t) : Reaches s t := by
  obtain ⟨k, hk⟩ := h
  obtain ⟨k', hk'⟩ := h'
  exact ⟨k + k', (steps_add hk k').trans hk'⟩

/-- The scan stands before its next exchange with the slave at `addr` (R214). -/
structure Scanning (count : Byte) (d : Half) (phase : SeqPhase) (addr : Byte) (s : State) : Prop
    extends Between 5 count d phase s where
  address : s.scanAddr = addr

/-- The kind of the request CHECKALL sends in a phase (R214). -/
def ScanKind (phase : SeqPhase) (kind : Kind) : Prop :=
  (phase = .cmd ∧ kind = .check) ∨ (phase = .fetch ∧ kind = .response)

section
variable {count addr : Byte} {d : Half} {phase : SeqPhase} {kind : Kind} {s : State} {v : Delivery} {rest : List Byte}

theorem Scanning.builds (h : Scanning count d phase addr s) (hk : ScanKind phase kind) :
    buildScan s = .next (writeRequest (placeholderFrame s.params kind addr) s) := by
  rcases hk with ⟨rfl, rfl⟩ | ⟨rfl, rfl⟩
  · rw [buildScan_cmd h.phase, h.address]
    rfl
  · rw [buildScan_fetch h.phase, h.address]
    rfl

/-- One exchange of the scan, with what the scan does on its return. -/
theorem Scanning.exchanges (h : Scanning count d phase addr s) (hk : ScanKind phase kind) (hv : v.clean)
    (hs : s.script = v.bytes ++ rest) :
    ∃ u, Scanning count d phase addr u ∧ u.reply = v.frame ∧
      u.success = verify s.params (placeholderFrame s.params kind addr) v.frame ∧
      Sent (exchangeEvents (placeholderFrame s.params kind addr) v.bytes) rest s u ∧
      ∀ t, resumeScan count u = .next t → Reaches s t := by
  obtain ⟨u, hu, hsteps⟩ := h.steps_exchange (checkAll_isDeviceOp count d) (h.builds hk) hv hs
  exact ⟨u, ⟨hu.between, hu.address.trans h.address⟩, hu.reply, hu.verdict, hu.sent, fun t ht => ⟨_, hsteps t ht⟩⟩

/-- A failed exchange aborts the scan, whether of CHECK or of RESPONSE (R214, R303). -/
theorem Scanning.reaches_abort (h : Scanning count d phase addr s) (hk : ScanKind phase kind) (hv : v.clean)
    (hs : s.script = v.bytes ++ rest) (hfail : verify s.params (placeholderFrame s.params kind addr) v.frame = false) :
    ∃ t, Reaches s t ∧ t.hstate = .idle ∧ t.seq = .none ∧ t.resOk = false ∧
      Sent (exchangeEvents (placeholderFrame s.params kind addr) v.bytes) rest s t := by
  obtain ⟨u, -, -, hverdict, hsent, hreach⟩ := h.exchanges hk hv hs
  exact ⟨_, hreach _ (resumeScan_failed count (hverdict.trans hfail)), rfl, rfl, rfl, hsent⟩

/-- A CHECK reply that verifies leads to the fetch (R214). -/
theorem Scanning.reaches_fetch (h : Scanning count d .cmd addr s) (hv : v.clean) (hs : s.script = v.bytes ++ rest)
    (hok : verify s.params (placeholderFrame s.params .check addr) v.frame = true) :
    ∃ t, Reaches s t ∧ Scanning count d .fetch addr t ∧
      Sent (exchangeEvents (placeholderFrame s.params .check addr) v.bytes) rest s t := by
  obtain ⟨u, hu, -, hverdict, hsent, hreach⟩ := h.exchanges (.inl ⟨rfl, rfl⟩) hv hs
  exact ⟨_, hreach _ (resumeScan_cmd count (hverdict.trans hok) hu.phase), ⟨hu.toFetch, hu.address⟩, hsent⟩

/-- A RESPONSE reply that verifies leads to the verdict on its status (R214, R218). -/
theorem Scanning.reaches_verdict (h : Scanning count d .fetch addr s) (hv : v.clean) (hs : s.script = v.bytes ++ rest)
    (hok : verify s.params (placeholderFrame s.params .response addr) v.frame = true) :
    ∃ u, Reaches s (scanVerdict count u) ∧ Scanning count d .fetch addr u ∧ u.reply = v.frame ∧
      Sent (exchangeEvents (placeholderFrame s.params .response addr) v.bytes) rest s u := by
  obtain ⟨u, hu, hreply, hverdict, hsent, hreach⟩ := h.exchanges (.inr ⟨rfl, rfl⟩) hv hs
  exact ⟨u, hreach _ (resumeScan_fetch count (hverdict.trans hok) hu.phase), hu, hreply, hsent⟩

/-! ### A healthy slave's turn -/

theorem verify_answer (p : Params) (addr : Byte) (v : SlaveTurn) :
    verify p (placeholderFrame p .response addr) (v.answer p addr).frame = true :=
  (verify_response rfl).mpr ⟨rfl, rfl, rfl, rfl⟩

/-- The transfers of one slave's turn (R214). -/
def turnEvents (p : Params) (addr : Byte) (v : SlaveTurn) : List WireEvent :=
  exchangeEvents (placeholderFrame p .check addr) (v.echo p addr).bytes ++
    exchangeEvents (placeholderFrame p .response addr) (v.answer p addr).bytes

theorem scanEvents_fault {p : Params} {addr : Byte} {v : SlaveTurn} (h : v.status ≠ 0x00) (vs : List SlaveTurn) :
    scanEvents p addr (v :: vs) = turnEvents p addr v := by
  rw [scanEvents, if_pos h, List.append_nil, turnEvents]

theorem scanEvents_healthy {p : Params} {addr : Byte} {v : SlaveTurn} (h : v.status = 0x00) (vs : List SlaveTurn) :
    scanEvents p addr (v :: vs) = turnEvents p addr v ++ scanEvents p (addr + 1) vs := by
  rw [scanEvents, if_neg (not_not.mpr h), turnEvents]

theorem firstFaulty_fault {addr : Byte} {v : SlaveTurn} (h : v.status ≠ 0x00) (vs : List SlaveTurn) :
    firstFaulty addr (v :: vs) = (addr, v.status) := if_pos h

theorem firstFaulty_healthy {addr : Byte} {v : SlaveTurn} (h : v.status = 0x00) (vs : List SlaveTurn) :
    firstFaulty addr (v :: vs) = firstFaulty (addr + 1) vs := if_neg (not_not.mpr h)

/-- A slave that echoes CHECK and answers RESPONSE leads to the verdict on its status (R214, R218). -/
theorem Scanning.reaches_turn {v : SlaveTurn} {vs : List SlaveTurn} (h : Scanning count d .cmd addr s) (hv : v.clean)
    (hs : s.script = chainScript s.params addr (v :: vs) ++ rest) :
    ∃ u, Reaches s (scanVerdict count u) ∧ Scanning count d .fetch addr u ∧ u.reply.payload0 = v.status ∧
      Sent (turnEvents s.params addr v) (chainScript s.params (addr + 1) vs ++ rest) s u := by
  obtain ⟨hpad1, hpad2⟩ := hv
  simp only [chainScript, List.append_assoc] at hs
  obtain ⟨m, hm, hfetch, hcheck⟩ := h.reaches_fetch (v := v.echo s.params addr) ⟨hpad1, rfl⟩ hs (verify_self _ _)
  have hp : m.params = s.params := hcheck.params
  obtain ⟨u, hu, hscan, hreply, hanswer⟩ := hfetch.reaches_verdict (v := v.answer s.params addr) ⟨hpad2, rfl⟩
    hcheck.script (by rw [hp]; exact verify_answer _ _ _)
  rw [hp] at hanswer
  exact ⟨u, hm.trans hu, hscan, congrArg Frame.payload0 hreply, hcheck.trans hanswer⟩

/-- A slave without a fault, before the last address, leads to the next one (R214). -/
theorem Scanning.reaches_next {v : SlaveTurn} {vs : List SlaveTurn} (h : Scanning count d .cmd addr s) (hv : v.clean)
    (hstatus : v.status = 0x00) (hmore : addr ≠ count)
    (hs : s.script = chainScript s.params addr (v :: vs) ++ rest) :
    ∃ t, Reaches s t ∧ Scanning count d .cmd (addr + 1) t ∧
      Sent (turnEvents s.params addr v) (chainScript s.params (addr + 1) vs ++ rest) s t := by
  obtain ⟨u, hu, hscan, hreply, hsent⟩ := h.reaches_turn hv hs
  rw [scanVerdict_next (hreply.trans hstatus) (hscan.address ▸ hmore)] at hu
  exact ⟨_, hu, ⟨⟨hscan.running, hscan.noReset, hscan.quiet, rfl⟩, congrArg (· + 1) hscan.address⟩, hsent⟩

/-- From `s` the command ends with success and this result, after these transfers. -/
def ScanEnds (result : Byte × Byte) (events : List WireEvent) (s : State) : Prop :=
  ∃ t rest, Reaches s t ∧ t.hstate = .idle ∧ t.seq = .none ∧ t.xph = .idle ∧ t.resOk = true ∧
    (t.resA, t.resB) = result ∧ Sent events rest s t

theorem ScanEnds.after {m : State} {result : Byte × Byte} {events events' : List WireEvent}
    (h : ScanEnds result events' m) (hreach : Reaches s m) (hsent : Sent events rest s m) :
    ScanEnds result (events ++ events') s := by
  obtain ⟨t, rest', ht, hidle, hseq, hx, hok, hresult, hsent'⟩ := h
  exact ⟨t, rest', hreach.trans ht, hidle, hseq, hx, hok, hresult, hsent.trans hsent'⟩

/-- A faulty slave ends the scan with its address and its status (R214). -/
theorem Scanning.ends_fault {v : SlaveTurn} {vs : List SlaveTurn} (h : Scanning count d .cmd addr s) (hv : v.clean)
    (hstatus : v.status ≠ 0x00) (hs : s.script = chainScript s.params addr (v :: vs) ++ rest) :
    ScanEnds (addr, v.status) (turnEvents s.params addr v) s := by
  obtain ⟨u, hu, hscan, hreply, hsent⟩ := h.reaches_turn hv hs
  rw [scanVerdict_fault count (hreply ▸ hstatus), hreply, hscan.address] at hu
  exact ⟨_, _, hu, rfl, rfl, hscan.quiet, rfl, rfl, hsent⟩

/-- A slave without a fault at the last address ends the scan with (1, 0, 0) (R214). -/
theorem Scanning.ends_last {v : SlaveTurn} {vs : List SlaveTurn} (h : Scanning count d .cmd addr s) (hv : v.clean)
    (hstatus : v.status = 0x00) (hlast : addr = count) (hs : s.script = chainScript s.params addr (v :: vs) ++ rest) :
    ScanEnds (0x00, 0x00) (turnEvents s.params addr v) s := by
  obtain ⟨u, hu, hscan, hreply, hsent⟩ := h.reaches_turn hv hs
  rw [scanVerdict_last (hreply.trans hstatus) (hscan.address.trans hlast)] at hu
  exact ⟨_, _, hu, rfl, rfl, hscan.quiet, rfl, rfl, hsent⟩

end

/-! ### The chain -/

/-- Slaves without a fault, none of them the last, are queried one after another (R214). -/
theorem Scanning.reaches_after {count : Byte} {d : Half} {rest : List Byte} (vs : List SlaveTurn) :
    ∀ {addr : Byte} {s : State}, Scanning count d .cmd addr s → (∀ v ∈ vs, v.clean ∧ v.status = 0x00) →
      addr.toNat + vs.length ≤ count.toNat → s.script = chainScript s.params addr vs ++ rest →
      ∃ t, Reaches s t ∧ Scanning count d .cmd (addr + BitVec.ofNat 8 vs.length) t ∧
        Sent (scanEvents s.params addr vs) rest s t := by
  induction vs with
  | nil =>
    intro addr s h _ _ hs
    exact ⟨s, ⟨0, rfl⟩, by simpa using h, by simp [scanEvents], hs, rfl, rfl⟩
  | cons v vs ih =>
    intro addr s h hall hlen hs
    obtain ⟨⟨hv, hstatus⟩, hvs⟩ := List.forall_mem_cons.mp hall
    rw [List.length_cons] at hlen
    obtain ⟨m, hm, hscan, hturn⟩ := h.reaches_next hv hstatus (by bv_omega) hs
    have hp : m.params = s.params := hturn.params
    obtain ⟨t, ht, hend, hsent⟩ := ih hscan hvs (by bv_omega) (by rw [hp]; exact hturn.script)
    rw [hp] at hsent
    rw [scanEvents_healthy hstatus]
    refine ⟨t, hm.trans ht, ?_, hturn.trans hsent⟩
    have haddr : addr + 1 + BitVec.ofNat 8 vs.length = addr + BitVec.ofNat 8 (v :: vs).length := by
      rw [List.length_cons, Nat.add_comm, BitVec.ofNat_add, BitVec.add_assoc]
      rfl
    exact haddr ▸ hend

/-- The scan of a chain up to the last address ends with the first fault, or with none (R214). -/
theorem Scanning.ends {count : Byte} {d : Half} {rest : List Byte} (vs : List SlaveTurn) :
    ∀ {addr : Byte} {s : State}, Scanning count d .cmd addr s → (∀ v ∈ vs, v.clean) → vs ≠ [] →
      addr.toNat + vs.length = count.toNat + 1 → s.script = chainScript s.params addr vs ++ rest →
      ScanEnds (firstFaulty addr vs) (scanEvents s.params addr vs) s := by
  induction vs with
  | nil => exact fun _ _ hne => absurd rfl hne
  | cons v vs ih =>
    intro addr s h hall _ hlen hs
    obtain ⟨hv, hvs⟩ := List.forall_mem_cons.mp hall
    rw [List.length_cons] at hlen
    by_cases hstatus : v.status = 0x00
    case neg =>
      rw [scanEvents_fault hstatus, firstFaulty_fault hstatus]
      exact h.ends_fault hv hstatus hs
    rw [scanEvents_healthy hstatus, firstFaulty_healthy hstatus]
    by_cases hnone : vs = []
    · subst hnone
      rw [List.length_nil] at hlen
      rw [scanEvents, List.append_nil]
      exact h.ends_last hv hstatus (by bv_omega) hs
    · have hpos : 0 < vs.length := List.length_pos_iff.mpr hnone
      obtain ⟨m, hm, hscan, hturn⟩ := h.reaches_next hv hstatus (by bv_omega) hs
      have hp : m.params = s.params := hturn.params
      have hends := ih hscan hvs hnone (by bv_omega) (by rw [hp]; exact hturn.script)
      rw [hp] at hends
      exact hends.after hm hturn

/-- The step that accepts a scan with a count leaves it before address 1 (R103, R214). -/
theorem reaches_scanning {s : State} {w : Word32} {ws : List Word32} {count : Byte} {d : Half} (hr : s.rst = false)
    (hh : s.hstate = .idle) (hx : s.xph = .idle) (hc : s.cmds = w :: ws)
    (hw : decodeCommand w = .instr (.checkAll count d)) (hcount : count ≠ 0) :
    ∃ m, Reaches s m ∧ Scanning count d .cmd 1 m ∧ Sent [] s.script { s with cmds := ws } m := by
  have haccept := (checkAll_isDeviceOp count d).step_accepts hr hh hc hw
  rw [beginScan_nonzero hcount] at haccept
  exact ⟨_, ⟨1, steps_first haccept 0⟩, ⟨⟨⟨rfl, rfl, rfl, rfl⟩, hr, hx, rfl⟩, rfl⟩, (List.append_nil _).symm, rfl, rfl,
    rfl⟩

/-- Settles O36: the scan of the whole chain, from address 1. -/
theorem scanFindsFirstFault : Obligations.ScanFindsFirstFault := by
  intro s w ws count d vs rest hr hh hx hc hw hcount hlen hclean hs
  obtain ⟨m, hm, hscan, hbegin⟩ := reaches_scanning hr hh hx hc hw (by bv_omega)
  have hp : m.params = s.params := hbegin.params
  obtain ⟨t, rest', ht, hidle, hseq, hquiet, hok, hresult, hsent⟩ := hscan.ends vs hclean
    (List.length_pos_iff.mp (by omega)) (by rw [hlen]; exact Nat.add_comm ..) (by rw [hbegin.script, hp]; exact hs)
  rw [hp] at hsent
  obtain ⟨k, hk⟩ := hm.trans ht
  obtain ⟨hwire, -, hcmds, hsession⟩ := hbegin.trans hsent
  exact ⟨k, t, hk, hidle, hseq, hquiet, hcmds, hok, hresult, hwire, hsession⟩

/-- Slaves without a fault, fewer than the count, lead from the offered word to the next address (R214). -/
theorem reaches_afterHealthy {s : State} {w : Word32} {ws : List Word32} {count : Byte} {d : Half}
    {vs : List SlaveTurn} {rest : List Byte} (hr : s.rst = false) (hh : s.hstate = .idle) (hx : s.xph = .idle)
    (hc : s.cmds = w :: ws) (hw : decodeCommand w = .instr (.checkAll count d)) (hlen : vs.length < count.toNat)
    (hvs : ∀ v ∈ vs, v.clean ∧ v.status = 0x00) (hs : s.script = chainScript s.params 1 vs ++ rest) :
    ∃ t, Reaches s t ∧ Scanning count d .cmd (BitVec.ofNat 8 (vs.length + 1)) t ∧
      Sent (scanEvents s.params 1 vs) rest { s with cmds := ws } t := by
  obtain ⟨m, hm, hscan, hbegin⟩ := reaches_scanning hr hh hx hc hw (by bv_omega)
  have hp : m.params = s.params := hbegin.params
  obtain ⟨t, ht, hat, hsent⟩ := hscan.reaches_after vs hvs (by rw [Nat.add_comm]; exact hlen)
    (by rw [hbegin.script, hp]; exact hs)
  rw [hp] at hsent
  rw [Nat.add_comm, BitVec.ofNat_add]
  exact ⟨t, hm.trans ht, hat, hbegin.trans hsent⟩

/-- Settles O37: the slaves before the failing exchange lead to its address, where CHECK or RESPONSE aborts the scan. -/
theorem scanAbortsOnFailure : Obligations.ScanAbortsOnFailure := by
  intro s w ws count d vs v rest hr hh hx hc hw hlen hvs hv
  refine ⟨fun hfail hs => ?_, fun e he hok hfail hs => ?_⟩
  all_goals
    obtain ⟨m, hm, hscan, hbefore⟩ := reaches_afterHealthy hr hh hx hc hw hlen hvs hs
    have hp : m.params = s.params := hbefore.params
    rw [← hp] at hfail
  · obtain ⟨t, ht, hidle, hseq, hresOk, habort⟩ := hscan.reaches_abort (.inl ⟨rfl, rfl⟩) hv hbefore.script hfail
    rw [hp] at habort
    obtain ⟨k, hk⟩ := hm.trans ht
    obtain ⟨hwire, hscript, hcmds, hsession⟩ := hbefore.trans habort
    exact ⟨k, t, hk, hidle, hseq, hcmds, hresOk, hscript, hwire.trans (List.append_assoc ..).symm, hsession⟩
  · obtain ⟨u, hu, hfetch, hcheck⟩ := hscan.reaches_fetch he hbefore.script (by rw [hp]; exact hok)
    rw [← hcheck.params] at hfail
    obtain ⟨t, ht, hidle, hseq, hresOk, habort⟩ := hfetch.reaches_abort (.inr ⟨rfl, rfl⟩) hv hcheck.script hfail
    rw [hcheck.params, hp] at habort
    rw [hp] at hcheck
    obtain ⟨k, hk⟩ := (hm.trans hu).trans ht
    obtain ⟨hwire, hscript, hcmds, hsession⟩ := (hbefore.trans hcheck).trans habort
    exact ⟨k, t, hk, hidle, hseq, hcmds, hresOk, hscript, by rw [hwire]; simp only [List.append_assoc], hsession⟩

end Sys2Proof.Machine

namespace Sys2Proof.Machine

/-! ## Engine reset (R36, R290) -/

/-- No command has ended since an engine reset, so there is no result to read (R36). -/
theorem hostResult_engineReset (s : State) : hostResult (engineReset s) = none :=
  hostResult_unwritten (engineReset_resWritten s)

/-- Settles O47: the step is engine reset; the control state is that of the reset state, the surroundings are `s`'s. -/
theorem engineResetStep : Obligations.EngineResetStep := by
  intro s hr
  obtain ⟨hidle, hseq, hxph, hestate, hvalid, hlevel⟩ := resetState
  exact ⟨engineReset s, step_reset hr, hidle, hseq, hxph, hestate, hvalid, hlevel, engineReset_rst s,
    engineReset_wire s, engineReset_trace s, engineReset_script s, engineReset_cmds s, engineReset_params s,
    hostResult_engineReset s⟩

end Sys2Proof.Machine
